-- ==== Sys2Proof/Word.lean ====
section
/-! DEFINITION. The machine word and its plainest readings (00_scope.md R9, R10, R14). -/

namespace Sys2Proof

/-- A 32-bit pattern: every datapath value, register and port word (00_scope.md R9). -/
abbrev Word := BitVec 32

/-- A byte of the control-port space, as 20_memory.md R74 views a word. -/
abbrev Byte := BitVec 8

/-- `s32(v)`: the two's-complement reading of a pattern (00_scope.md R9). -/
abbrev s32 (v : Word) : Int := v.toInt

/-- `u32(v)`: the unsigned reading of a pattern (00_scope.md R9). -/
abbrev u32 (v : Word) : Nat := v.toNat

/-- `wrap32(n)`: the pattern whose unsigned value is n mod 2^32 (00_scope.md R9). -/
abbrev wrap32 (n : Int) : Word := BitVec.ofInt 32 n

/-- `v[hi:lo]`, zero-extended, as a natural number (00_scope.md R9). -/
def bits (v : Word) (hi lo : Nat) : Nat := v.toNat / 2 ^ lo % 2 ^ (hi + 1 - lo)

/-- `ONE` = 32768 (1.0 in Q16.15), 00_scope.md R14. -/
abbrev fxOne : Word := 32768#32

/-- `HALF` = 16384 (0.5 in Q16.15), 00_scope.md R14. -/
abbrev fxHalf : Word := 16384#32

/-- `LIM16` = 524288 (16.0 in Q16.15), 00_scope.md R14. -/
abbrev lim16 : Int := 524288

/-- `LIM8` = 262144 (8.0 in Q16.15), 00_scope.md R14. -/
abbrev lim8 : Int := 262144

end Sys2Proof
end

