-- ==== Sys2Proof/Config.lean ====
section
/-! DEFINITION. The configuration of 00_scope.md R6, its default and its legality (R7), and the model's free values.
The configuration is the argument the spec gives the step relation (10_state.md R20); the model carries it in State. -/

namespace Sys2Proof

/-- `FILTER_VARIANT` (00_scope.md R6): SVF is named and refused (R7, 47_filter.md R302). -/
inductive FilterVariant where
  | ladder
  | svf
  deriving DecidableEq, Repr

/-- One entry of `NOTE_HZ`, a positive real frequency in Hz, given by its twelfth power `num / den`.
DESIGN CHOICE (log 4, safe): equal-tempered frequencies are irrational, their twelfth powers are rational. -/
structure NoteFreq where
  num : Nat
  den : Nat
  deriving DecidableEq, Repr

/-- The configuration parameters of 00_scope.md R6. `OSC_SET` and `FRAC_BITS` are fixed there and are no fields. -/
structure Cfg where
  nvoices : Nat
  sr : Nat
  frames : Nat
  filter : FilterVariant
  mixShift : Nat
  fifoDepth : Nat
  sineTable : List Word
  noteHz : List NoteFreq
  envAmount : Word
  keyTrack : Word
  /-- `BASE`, the byte address of the control port (92_eei_decisions.md D2). -/
  base : Nat
  deriving DecidableEq, Repr

/-- `BUFWORDS = 2 · FRAMES` (00_scope.md R8). -/
def Cfg.bufWords (c : Cfg) : Nat := 2 * c.frames

/-- `RAMP10 = rha(SR · 10 / 1000)` (00_scope.md R6, 44_smoother.md R216): 441 or 221. -/
def Cfg.ramp10 (c : Cfg) : Nat := (2 * (c.sr * 10) + 1000) / 2000

/-- `RAMP50 = rha(SR · 50 / 1000)` (00_scope.md R6, 44_smoother.md R216): 2205 or 1103. -/
def Cfg.ramp50 (c : Cfg) : Nat := (2 * (c.sr * 50) + 1000) / 2000

/-- `STEAL_FADE_SAMPLES = floor(SR · 5 / 1000)` (00_scope.md R6): 220 or 110. -/
def Cfg.stealFade (c : Cfg) : Nat := c.sr * 5 / 1000

/-- Every parameter has a value of the legal column of 00_scope.md R6 (93_implementation_defined.md U33). -/
def Cfg.legal (c : Cfg) : Bool :=
  (c.nvoices == 4 || c.nvoices == 8) &&
  (c.sr == 44100 || c.sr == 22050) &&
  (c.frames == 64 || c.frames == 128) &&
  c.filter == .ladder &&
  Nat.ble c.mixShift 15 &&
  [2, 4, 8, 16, 32, 64, 128].contains c.fifoDepth &&
  c.base % 4 == 0 &&
  c.sineTable.length == 1024 &&
  c.noteHz.length == 128 &&
  c.noteHz.all (fun f => Nat.blt 0 f.num && Nat.blt 0 f.den)

/-- The default `NOTE_HZ[n] = 440 · 2^((n - 69) / 12)` (42_oscillators.md R172), each by its twelfth power. -/
def Config.noteHzDefault : List NoteFreq := (List.range 128).map fun n => ⟨440 ^ 12 * 2 ^ n, 2 ^ 69⟩

/-- The default column of 00_scope.md R6. `BASE` is OPEN there: DESIGN CHOICE 0 (log 18, safe). -/
def Cfg.default : Cfg where
  nvoices := 4
  sr := 44100
  frames := 64
  filter := .ladder
  mixShift := 3
  fifoDepth := 8
  sineTable := Config.sineDefault
  noteHz := Config.noteHzDefault
  envAmount := 0
  keyTrack := 0
  base := 0

/-- FREE VALUE (log 5): which store a relaxed load returns (92_eei_decisions.md "Open parameters") is this constant applied
to State's draw counter. It has no body, so nothing can be proved about its values. -/
opaque Config.freeDraw : Nat → Nat

/-- FREE VALUE (log 24): which agent moves where the schedule is empty (92_eei_decisions.md "Open parameters") is this
constant applied to State's counter of such turns. It has no body. -/
opaque Config.freeAgent : Nat → Nat

/-- FREE VALUE (log 6): which of its values a read of an output word during the fill returns (92_eei_decisions.md "Open
parameters") is this constant applied to State's draw counter and the word's index. It has no body. -/
opaque Config.freeRead : Nat → Nat → Nat

end Sys2Proof
end

