-- ==== Sys2Proof/Syntax.lean ====
section
/-! DEFINITION. The commands of the block: one constructor of `Instr` per row of spec/opcode_table.json, and the names
that stand in their operands. -/

namespace Sys2Proof

/-- Oscillator kinds, numbered 0 to 4 (10_state.md R35, 42_oscillators.md R174). -/
inductive Kind where
  | saw
  | pulse
  | sub
  | noise
  | sine
  deriving DecidableEq, Repr

/-- The six smoothers of ids 0 to 5 (10_state.md R32). -/
inductive GlobalSm where
  | sawLvl
  | pulseLvl
  | subLvl
  | noiseLvl
  | pulseW
  | masterVol
  deriving DecidableEq, Repr

/-- The five smoothers of one voice, ids 8 + 8v + 0 to 4 (10_state.md R32). -/
inductive VoiceSm where
  | vel
  | sus
  | att
  | dec
  | rel
  deriving DecidableEq, Repr

/-- A smoother id that names a row of 10_state.md R32; whether `v < NVOICES` is checked when the command runs. -/
inductive SmId where
  | global (g : GlobalSm)
  | voice (v : Nat) (k : VoiceSm)
  deriving DecidableEq, Repr

/-- The block's commands: UOP rows (30_encoding.md R116), EVT rows (R111) and REG rows (R119). `v` is a voice index. -/
inductive Instr where
  -- UOP, Q16.15 arithmetic (41_fixpoint.md)
  | nop
  | add
  | sub
  | mul
  | div
  | clamp
  | addclamp
  | shra
  | fromint
  | toint
  | fromfloat
  | tofloat
  -- UOP, oscillators (42_oscillators.md, 43_sine_lut.md)
  | oscReset (v : Nat) (k : Kind)
  | oscSetinc (v : Nat) (k : Kind)
  | sawNext (v : Nat)
  | pulseNext (v : Nat)
  | subNext (v : Nat)
  | noiseNext (v : Nat)
  | sineNext
  | pulseSetw (v : Nat)
  | oscRead (v : Nat) (k : Kind)
  | oscSetfreq (v : Nat) (k : Kind)
  | sineLut
  -- UOP, smoothers (44_smoother.md)
  | smReset (id : SmId)
  | smSetvalue (id : SmId)
  | smSettarget (id : SmId)
  | smNext (id : SmId)
  | smRead (id : SmId)
  -- UOP, parameter cells (45_parameters.md)
  | paramSet (i : Fin 12)
  | paramSetn (i : Fin 12)
  | paramGet (i : Fin 12)
  | paramGetn (i : Fin 12)
  -- UOP, envelope (46_envelope.md)
  | envNoteOn (v : Nat)
  | envNoteOff (v : Nat)
  | envTick (v : Nat)
  | envRead (v : Nat)
  | envLevel (v : Nat)
  -- UOP, ladder filter (47_filter.md)
  | ladderStep (v : Nat)
  | ladderG
  | ladderRes
  | cutoffMod
  | ladderRead (v : Nat)
  /-- Every word with `OP = 0x68`; `low` is its bits 23:0 (47_filter.md R302). -/
  | svfStep (low : BitVec 24)
  -- UOP, voice and voice manager (48_voice.md, 49_polyphony.md)
  | voiceNoteOn (v : Nat)
  | voiceNoteOff (v : Nat)
  | voiceRender (v : Nat)
  | voiceRead (v : Nat)
  | vmSelect
  /-- The catch-all row: a UOP word no other row takes (30_encoding.md R113, R115, R117). -/
  | illegalUop (w : Word)
  -- EVT packets (30_encoding.md R111)
  | evtNoteOn (d1 d2 rsv : Byte)
  | evtNoteOnV0 (d1 rsv : Byte)
  | evtNoteOff (d1 d2 rsv : Byte)
  | evtAllNotesOff (d2 rsv : Byte)
  | evtCcIgnored (d1 d2 rsv : Byte)
  | evtOtherIgnored (cmd d1 d2 rsv : Byte)
  -- REG writes with side effects (30_encoding.md R119)
  | reset
  | fill (b : Bool)
  | evtPush (w : Word)
  | uopIssue (w : Word)
  deriving DecidableEq, Repr

end Sys2Proof
end

