-- ==== Sys2Proof/Decode.lean ====
section
/-! DEFINITION. Decoding a 32-bit command word for the port it is written to (30_encoding.md R110 to R120), and the
encoder written from the same tables. -/

namespace Sys2Proof

/-- The command forms. "The port an agent writes decides the form, not the bits" (30_encoding.md R120): a UOP word
(written to UOP_CMD), an EVT packet (polled by AUDIO), and the data word of a write to CTRL, FILL, EVT_PUSH, UOP_CMD. -/
inductive Form where
  | uop
  | evt
  | ctrl
  | fill
  | push
  | cmd
  deriving DecidableEq, Repr

/-- Why a port word is no command. -/
inductive Reject where
  /-- A CTRL write of 0: no effect (10_state.md R23). -/
  | ctrlZero
  /-- A CTRL write with a bit of 31:1 set: ILLEGAL (10_state.md R23). -/
  | ctrlReserved
  /-- A FILL write with a bit of 31:1 set: ILLEGAL (10_state.md R26). -/
  | fillReserved
  deriving DecidableEq, Repr

/-- Oscillator kind of `UNIT[2:0]` (42_oscillators.md R174). -/
def decodeKind (k : Nat) : Option Kind :=
  match k with
  | 0 => some .saw
  | 1 => some .pulse
  | 2 => some .sub
  | 3 => some .noise
  | 4 => some .sine
  | _ => none

/-- `UNIT = {v[4:0], k[2:0]}`, SINE only with v = 0 (30_encoding.md R115). -/
def decodeOsc (unit : Nat) : Option (Nat × Kind) :=
  match decodeKind (unit % 8) with
  | some .sine => if unit / 8 = 0 then some (0, .sine) else none
  | some k => some (unit / 8, k)
  | none => none

/-- Smoother id of a UNIT (10_state.md R32): reserved ids are no smoother. -/
def decodeSm (unit : Nat) : Option SmId :=
  if unit < 8 then
    match unit with
    | 0 => some (.global .sawLvl)
    | 1 => some (.global .pulseLvl)
    | 2 => some (.global .subLvl)
    | 3 => some (.global .noiseLvl)
    | 4 => some (.global .pulseW)
    | 5 => some (.global .masterVol)
    | _ => none
  else
    match unit % 8 with
    | 0 => some (.voice (unit / 8 - 1) .vel)
    | 1 => some (.voice (unit / 8 - 1) .sus)
    | 2 => some (.voice (unit / 8 - 1) .att)
    | 3 => some (.voice (unit / 8 - 1) .dec)
    | 4 => some (.voice (unit / 8 - 1) .rel)
    | _ => none

/-- PURE and VM classes admit `UNIT = 0` only (30_encoding.md R115). -/
def pureUop (w : Word) (unit : Nat) (i : Instr) : Instr := if unit = 0 then i else .illegalUop w

/-- OSC class (30_encoding.md R115). -/
def oscUop (w : Word) (unit : Nat) (f : Nat → Kind → Instr) : Instr :=
  match decodeOsc unit with
  | some (v, k) => f v k
  | none => .illegalUop w

/-- OSC_NEXT: the kind selects the row (30_encoding.md R116). -/
def oscNextUop (v : Nat) (k : Kind) : Instr :=
  match k with
  | .saw => .sawNext v
  | .pulse => .pulseNext v
  | .sub => .subNext v
  | .noise => .noiseNext v
  | .sine => .sineNext

/-- SM class (30_encoding.md R115). -/
def smUop (w : Word) (unit : Nat) (f : SmId → Instr) : Instr :=
  match decodeSm unit with
  | some id => f id
  | none => .illegalUop w

/-- PARAM class: a parameter index 0..11 (30_encoding.md R115). -/
def paramUop (w : Word) (unit : Nat) (f : Fin 12 → Instr) : Instr :=
  if h : unit < 12 then f ⟨unit, h⟩ else .illegalUop w

/-- The opcode map of 30_encoding.md R116 on a word with `RSV = 0`. The bound `v < NVOICES` is a matter of the
configuration: the meaning checks it. -/
def decodeOp (w : Word) (op unit : Nat) : Instr :=
  match op with
  | 0x00 => pureUop w unit .nop
  | 0x01 => pureUop w unit .add
  | 0x02 => pureUop w unit .sub
  | 0x03 => pureUop w unit .mul
  | 0x04 => pureUop w unit .div
  | 0x05 => pureUop w unit .clamp
  | 0x06 => pureUop w unit .addclamp
  | 0x07 => pureUop w unit .shra
  | 0x08 => pureUop w unit .fromint
  | 0x09 => pureUop w unit .toint
  | 0x0A => pureUop w unit .fromfloat
  | 0x0B => pureUop w unit .tofloat
  | 0x20 => oscUop w unit .oscReset
  | 0x21 => oscUop w unit .oscSetinc
  | 0x22 => oscUop w unit oscNextUop
  | 0x23 => if unit % 8 = 1 then .pulseSetw (unit / 8) else .illegalUop w
  | 0x24 => oscUop w unit .oscRead
  | 0x25 => oscUop w unit .oscSetfreq
  | 0x28 => pureUop w unit .sineLut
  | 0x30 => smUop w unit .smReset
  | 0x31 => smUop w unit .smSetvalue
  | 0x32 => smUop w unit .smSettarget
  | 0x33 => smUop w unit .smNext
  | 0x34 => smUop w unit .smRead
  | 0x40 => paramUop w unit .paramSet
  | 0x41 => paramUop w unit .paramSetn
  | 0x42 => paramUop w unit .paramGet
  | 0x43 => paramUop w unit .paramGetn
  | 0x50 => .envNoteOn unit
  | 0x51 => .envNoteOff unit
  | 0x52 => .envTick unit
  | 0x53 => .envRead unit
  | 0x54 => .envLevel unit
  | 0x60 => .ladderStep unit
  | 0x61 => pureUop w unit .ladderG
  | 0x62 => pureUop w unit .ladderRes
  | 0x63 => pureUop w unit .cutoffMod
  | 0x64 => .ladderRead unit
  | 0x70 => .voiceNoteOn unit
  | 0x71 => .voiceNoteOff unit
  | 0x72 => .voiceRender unit
  | 0x73 => .voiceRead unit
  | 0x78 => pureUop w unit .vmSelect
  | _ => .illegalUop w

/-- Format UOP (30_encoding.md R113): RSV, then OP, then UNIT. Every word with `OP = 0x68` is SVF_STEP, whatever its
other bits (spec/opcode_table.json; 47_filter.md R302); both answers raise the same fault. -/
def decodeUop (w : Word) : Instr :=
  if bits w 31 24 = 0x68 then .svfStep (BitVec.ofNat 24 (bits w 23 0))
  else if bits w 15 0 = 0 then decodeOp w (bits w 31 24) (bits w 23 16)
  else .illegalUop w

/-- Format EVT (30_encoding.md R110, R111), first match wins. -/
def decodeEvt (w : Word) : Instr :=
  let cmd := bits w 31 24
  let d1 := BitVec.ofNat 8 (bits w 23 16)
  let d2 := BitVec.ofNat 8 (bits w 15 8)
  let rsv := BitVec.ofNat 8 (bits w 7 0)
  if cmd = 0x90 ∧ bits w 15 8 ≠ 0 then .evtNoteOn d1 d2 rsv
  else if cmd = 0x90 then .evtNoteOnV0 d1 rsv
  else if cmd = 0x80 then .evtNoteOff d1 d2 rsv
  else if cmd = 0xB0 ∧ bits w 23 16 = 123 then .evtAllNotesOff d2 rsv
  else if cmd = 0xB0 then .evtCcIgnored d1 d2 rsv
  else .evtOtherIgnored (BitVec.ofNat 8 cmd) d1 d2 rsv

/-- The decoder: total on every word of every form. -/
def decode (f : Form) (w : Word) : Except Reject Instr :=
  match f with
  | .uop => .ok (decodeUop w)
  | .evt => .ok (decodeEvt w)
  | .ctrl => if w = 1 then .ok .reset else if w = 0 then .error .ctrlZero else .error .ctrlReserved
  | .fill => if w = 0 then .ok (.fill false) else if w = 1 then .ok (.fill true) else .error .fillReserved
  | .push => .ok (.evtPush w)
  | .cmd => .ok (.uopIssue w)

/-! ### The encoder -/

def encodeKind (k : Kind) : Nat :=
  match k with
  | .saw => 0
  | .pulse => 1
  | .sub => 2
  | .noise => 3
  | .sine => 4

/-- `UNIT = {v, k}` (42_oscillators.md R174). -/
def encodeOsc (v : Nat) (k : Kind) : Nat := 8 * v + encodeKind k

/-- The id column of 10_state.md R32. -/
def encodeSm (id : SmId) : Nat :=
  match id with
  | .global .sawLvl => 0
  | .global .pulseLvl => 1
  | .global .subLvl => 2
  | .global .noiseLvl => 3
  | .global .pulseW => 4
  | .global .masterVol => 5
  | .voice v .vel => 8 + 8 * v
  | .voice v .sus => 8 + 8 * v + 1
  | .voice v .att => 8 + 8 * v + 2
  | .voice v .dec => 8 + 8 * v + 3
  | .voice v .rel => 8 + 8 * v + 4

/-- `{OP, UNIT, 0x0000}` (30_encoding.md R113). -/
def uopWord (op unit : Nat) : Word := BitVec.ofNat 32 (op * 2 ^ 24 + unit * 2 ^ 16)

/-- `{CMD, D1, D2, RSV}` (30_encoding.md R110). -/
def evtWord (cmd d1 d2 rsv : Byte) : Word := cmd ++ d1 ++ d2 ++ rsv

/-- The word of a command (30_encoding.md R111, R116, R119). -/
def encode (i : Instr) : Word :=
  match i with
  | .nop => uopWord 0x00 0
  | .add => uopWord 0x01 0
  | .sub => uopWord 0x02 0
  | .mul => uopWord 0x03 0
  | .div => uopWord 0x04 0
  | .clamp => uopWord 0x05 0
  | .addclamp => uopWord 0x06 0
  | .shra => uopWord 0x07 0
  | .fromint => uopWord 0x08 0
  | .toint => uopWord 0x09 0
  | .fromfloat => uopWord 0x0A 0
  | .tofloat => uopWord 0x0B 0
  | .oscReset v k => uopWord 0x20 (encodeOsc v k)
  | .oscSetinc v k => uopWord 0x21 (encodeOsc v k)
  | .sawNext v => uopWord 0x22 (encodeOsc v .saw)
  | .pulseNext v => uopWord 0x22 (encodeOsc v .pulse)
  | .subNext v => uopWord 0x22 (encodeOsc v .sub)
  | .noiseNext v => uopWord 0x22 (encodeOsc v .noise)
  | .sineNext => uopWord 0x22 0x04
  | .pulseSetw v => uopWord 0x23 (encodeOsc v .pulse)
  | .oscRead v k => uopWord 0x24 (encodeOsc v k)
  | .oscSetfreq v k => uopWord 0x25 (encodeOsc v k)
  | .sineLut => uopWord 0x28 0
  | .smReset id => uopWord 0x30 (encodeSm id)
  | .smSetvalue id => uopWord 0x31 (encodeSm id)
  | .smSettarget id => uopWord 0x32 (encodeSm id)
  | .smNext id => uopWord 0x33 (encodeSm id)
  | .smRead id => uopWord 0x34 (encodeSm id)
  | .paramSet i => uopWord 0x40 i.val
  | .paramSetn i => uopWord 0x41 i.val
  | .paramGet i => uopWord 0x42 i.val
  | .paramGetn i => uopWord 0x43 i.val
  | .envNoteOn v => uopWord 0x50 v
  | .envNoteOff v => uopWord 0x51 v
  | .envTick v => uopWord 0x52 v
  | .envRead v => uopWord 0x53 v
  | .envLevel v => uopWord 0x54 v
  | .ladderStep v => uopWord 0x60 v
  | .ladderG => uopWord 0x61 0
  | .ladderRes => uopWord 0x62 0
  | .cutoffMod => uopWord 0x63 0
  | .ladderRead v => uopWord 0x64 v
  | .svfStep low => (0x68#8 : BitVec 8) ++ low
  | .voiceNoteOn v => uopWord 0x70 v
  | .voiceNoteOff v => uopWord 0x71 v
  | .voiceRender v => uopWord 0x72 v
  | .voiceRead v => uopWord 0x73 v
  | .vmSelect => uopWord 0x78 0
  | .illegalUop w => w
  | .evtNoteOn d1 d2 rsv => evtWord 0x90 d1 d2 rsv
  | .evtNoteOnV0 d1 rsv => evtWord 0x90 d1 0 rsv
  | .evtNoteOff d1 d2 rsv => evtWord 0x80 d1 d2 rsv
  | .evtAllNotesOff d2 rsv => evtWord 0xB0 123 d2 rsv
  | .evtCcIgnored d1 d2 rsv => evtWord 0xB0 d1 d2 rsv
  | .evtOtherIgnored cmd d1 d2 rsv => evtWord cmd d1 d2 rsv
  | .reset => 1
  | .fill b => if b then 1 else 0
  | .evtPush w => w
  | .uopIssue w => w

/-- The port form a command belongs to (30_encoding.md R119, R120). -/
def formOf (i : Instr) : Form :=
  match i with
  | .evtNoteOn _ _ _ | .evtNoteOnV0 _ _ | .evtNoteOff _ _ _ | .evtAllNotesOff _ _ => .evt
  | .evtCcIgnored _ _ _ | .evtOtherIgnored _ _ _ _ => .evt
  | .reset => .ctrl
  | .fill _ => .fill
  | .evtPush _ => .push
  | .uopIssue _ => .cmd
  | .nop | .add | .sub | .mul | .div | .clamp | .addclamp | .shra | .fromint | .toint | .fromfloat | .tofloat => .uop
  | .oscReset _ _ | .oscSetinc _ _ | .oscRead _ _ | .oscSetfreq _ _ | .sineNext | .sineLut => .uop
  | .sawNext _ | .pulseNext _ | .subNext _ | .noiseNext _ | .pulseSetw _ => .uop
  | .smReset _ | .smSetvalue _ | .smSettarget _ | .smNext _ | .smRead _ => .uop
  | .paramSet _ | .paramSetn _ | .paramGet _ | .paramGetn _ => .uop
  | .envNoteOn _ | .envNoteOff _ | .envTick _ | .envRead _ | .envLevel _ => .uop
  | .ladderStep _ | .ladderG | .ladderRes | .cutoffMod | .ladderRead _ | .svfStep _ => .uop
  | .voiceNoteOn _ | .voiceNoteOff _ | .voiceRender _ | .voiceRead _ | .vmSelect | .illegalUop _ => .uop

/-! ### Words without a port -/

/-- The form a word of the opcode table is read in when no port is given. The table's rows overlap, since the port and
not the bits decides (30_encoding.md R120). DESIGN CHOICE (log 1, safe): CTRL for the RESET word 1; UOP for a word some
UOP row other than the catch-all takes; EVT for a packet whose command byte is 0x80, 0x90 or 0xB0; else UOP. -/
def tableForm (w : Word) : Form :=
  if w = 1 then .ctrl
  else
    match decodeUop w with
    | .illegalUop _ =>
      match decodeEvt w with
      | .evtOtherIgnored _ _ _ _ => .uop
      | _ => .evt
    | _ => .uop

/-- The command an opcode-table word of `nbits` bits stands for. Every command is one 32-bit word (30_encoding.md R120),
so longer words are none. -/
def decodeTableWord (nbits w : Nat) : Option Instr :=
  if nbits ≤ 32 ∧ w < 2 ^ 32 then
    match decode (tableForm (BitVec.ofNat 32 w)) (BitVec.ofNat 32 w) with
    | .ok i => some i
    | .error _ => none
  else none

end Sys2Proof
end

