-- ==== Sys2Proof/Machine/Arith.lean ====
section
/-! DEFINITION. The Q16.15 arithmetic unit (41_fixpoint.md) and the integer operators of 00_scope.md R10. -/

namespace Sys2Proof.Machine

/-- `a >>a n`: floor(a / 2^n) (00_scope.md R10). -/
def asr (a : Int) (n : Nat) : Int := a / 2 ^ n

/-- `tdiv(a, b)`: the quotient rounded toward zero (00_scope.md R10). -/
def tdiv (a b : Int) : Int := Int.tdiv a b

/-- `rha(n / d)` for `d > 0`: the nearest integer, halves away from zero (00_scope.md R10). -/
def rha (n : Int) (d : Nat) : Int :=
  if 0 ≤ n then (((2 * n.natAbs + d) / (2 * d) : Nat) : Int) else -(((2 * n.natAbs + d) / (2 * d) : Nat) : Int)

/-- 41_fixpoint.md R142. -/
def fadd (a b : Word) : Word := wrap32 (s32 a + s32 b)

/-- 41_fixpoint.md R143. -/
def fsub (a b : Word) : Word := wrap32 (s32 a - s32 b)

/-- 41_fixpoint.md R144: exact product, arithmetic shift, low 32 bits. -/
def fmul (a b : Word) : Word := wrap32 (asr (s32 a * s32 b) 15)

/-- 41_fixpoint.md R145, for a nonzero divisor. -/
def fdiv (a b : Word) : Word := wrap32 (tdiv (s32 a * 2 ^ 15) (s32 b))

/-- `clamp(x, lo, hi) = max(lo, min(hi, x))` (00_scope.md R10). -/
def iclamp (x lo hi : Int) : Int := max lo (min hi x)

/-- 41_fixpoint.md R146. -/
def fclamp (x lo hi : Word) : Word := wrap32 (iclamp (s32 x) (s32 lo) (s32 hi))

/-- ADDCLAMP: the exact sum is clamped, as 90_conflicts.md C2 and 92_eei_decisions.md D9 decide (log 9). -/
def faddclamp (a b lo hi : Word) : Word := wrap32 (iclamp (s32 a + s32 b) (s32 lo) (s32 hi))

/-- 41_fixpoint.md R148. -/
def fshra (a : Word) (n : Nat) : Word := wrap32 (asr (s32 a) n)

/-- 41_fixpoint.md R149. -/
def ffromint (i : Word) : Word := wrap32 (s32 i * 2 ^ 15)

/-- 41_fixpoint.md R150. -/
def ftoint (x : Word) : Word := wrap32 (asr (s32 x) 15)

end Sys2Proof.Machine
end

