-- ==== Sys2Proof/Machine/Binary32.lean ====
section
/-! DEFINITION. IEEE 754 binary32 by exact integer arithmetic (00_scope.md R11), and the conversions to and from Q16.15,
frequencies and sample counts. A finite value is an integer number of units of 2^-149. -/

namespace Sys2Proof.Machine

/-- Bit 31 (00_scope.md R11). -/
def fSign (x : Word) : Bool := decide (2 ^ 31 ≤ x.toNat)

/-- Bits 30:0. -/
def fAbsBits (x : Word) : Nat := x.toNat % 2 ^ 31

/-- The pattern is a NaN. -/
def fIsNaN (x : Word) : Bool := Nat.blt 0x7F800000 (fAbsBits x)

/-- The pattern is a NaN or an infinity. -/
def fNotFinite (x : Word) : Bool := Nat.ble 0x7F800000 (fAbsBits x)

/-- `|val(x)| · 2^149` of a finite pattern; an infinity reads as 2^277, above every finite value. -/
def fMag (x : Word) : Nat :=
  let e := fAbsBits x / 2 ^ 23
  let f := fAbsBits x % 2 ^ 23
  if e = 0 then f else (2 ^ 23 + f) * 2 ^ (e - 1)

/-- `val(x) · 2^149` (00_scope.md R11). The order of these integers is the IEEE order of the values. -/
def fUnits (x : Word) : Int := if fSign x then -(fMag x : Int) else (fMag x : Int)

/-- The sign and the 31 magnitude bits of a pattern. -/
def fPack (neg : Bool) (mag : Nat) : Word := BitVec.ofNat 32 ((if neg then 2 ^ 31 else 0) + mag)

/-- `n / d` rounded to the nearest integer, ties to even, for `d > 0`. -/
def rneDiv (n d : Nat) : Nat :=
  let q := n / d
  let r := n % d
  if 2 * r < d then q else if d < 2 * r then q + 1 else if q % 2 = 0 then q else q + 1

/-- The magnitude bits of `rne32(n / d · 2^-149)` for `d > 0`: nearest, ties to even, infinity on overflow
(00_scope.md R11). With `e` the exponent above the subnormal range and `m` the 24-bit significand, the bits are
`e · 2^23 + m` in every binade, and a carry out of `m` lands in the next one. -/
def rneBits (n d : Nat) : Nat :=
  let k := n / d
  let e := if k < 2 ^ 24 then 0 else Nat.log2 k - 23
  min 0x7F800000 (e * 2 ^ 23 + rneDiv n (d * 2 ^ e))

/-- The binary32 operations of 45_parameters.md R246 and R248 on finite operands, each rounded to nearest-even. The sign
of a zero result is IEEE's (log 21). -/
def fpAdd (x y : Word) : Word :=
  let z := fUnits x + fUnits y
  if z = 0 then fPack (fSign x && fSign y) 0 else fPack (decide (z < 0)) (rneBits z.natAbs 1)

def fpNeg (x : Word) : Word := fPack (!fSign x) (fAbsBits x)

def fpSub (x y : Word) : Word := fpAdd x (fpNeg y)

def fpMul (x y : Word) : Word := fPack (fSign x != fSign y) (rneBits (fMag x * fMag y) (2 ^ 149))

/-- For a divisor that is not zero. -/
def fpDiv (x y : Word) : Word := fPack (fSign x != fSign y) (rneBits (fMag x * 2 ^ 149) (fMag y))

/-- IEEE `x < y` on patterns that are no NaN. -/
def fpLt (x y : Word) : Bool := decide (fUnits x < fUnits y)

/-- 41_fixpoint.md R151 on a finite pattern: `wrap32(rha(val(x) · 32768))`. -/
def ffromfloat (x : Word) : Word := wrap32 (rha (fUnits x) (2 ^ 134))

/-- 41_fixpoint.md R152: `bits(rne32(s32(x) / 32768))`. -/
def ftofloat (x : Word) : Word :=
  fPack (decide (s32 x < 0)) (rneBits ((s32 x).natAbs * 2 ^ 134) 1)

/-- `inc_of(val(x), SR) = wrap32(rha(val(x) · 2^32 / SR))` (42_oscillators.md R171). -/
def incOfFloat (x : Word) (sr : Nat) : Word := wrap32 (rha (fUnits x) (2 ^ 117 * sr))

/-- `inc_of(val(x) / 2, SR)`: the sub oscillator's halved frequency (42_oscillators.md R179). -/
def incOfHalfFloat (x : Word) (sr : Nat) : Word := wrap32 (rha (fUnits x) (2 ^ 118 * sr))

/-- `to_samples(x) = rha(val(x) · SR)` (45_parameters.md R250). -/
def toSamples (x : Word) (sr : Nat) : Word := wrap32 (rha (fUnits x * sr) (2 ^ 149))

end Sys2Proof.Machine
end

