-- ==== Sys2Proof/Machine/Tables.lean ====
section
/-! DEFINITION. The read-only tables: parameter metadata (45_parameters.md R240), NOTE_INC and SUB_INC
(42_oscillators.md R172), SINE_ROM and its interpolator (43_sine_lut.md). -/

namespace Sys2Proof.Machine

/-- One row of 45_parameters.md R240: binary32 patterns of min, max and default, and the CC number. -/
structure ParamMeta where
  min : Word
  max : Word
  default : Word
  cc : Nat
  deriving DecidableEq, Repr

/-- The canonical parameter set in the source's order: attack, decay, sustain, release, sawLevel, pulseLevel, subLevel,
noiseLevel, pulseWidth, filterCutoff, filterResonance, masterVol (45_parameters.md R240). -/
def paramTable : List ParamMeta :=
  [
   ⟨0x3A83126F, 0x40200000, 0x3C23D70A, 74⟩,
   ⟨0x3B449BA6, 0x40000000, 0x3E4CCCCD, 71⟩,
   ⟨0x00000000, 0x3F800000, 0x3E99999A, 73⟩,
   ⟨0x3C23D70A, 0x40A00000, 0x3DCCCCCD, 72⟩,
   ⟨0x00000000, 0x3F800000, 0x3F800000, 79⟩,
   ⟨0x00000000, 0x3F800000, 0x00000000, 80⟩,
   ⟨0x00000000, 0x3F800000, 0x00000000, 82⟩,
   ⟨0x00000000, 0x3F800000, 0x00000000, 78⟩,
   ⟨0x3D4CCCCD, 0x3F733333, 0x3F000000, 81⟩,
   ⟨0x00000000, 0x3F800000, 0x3F000000, 76⟩,
   ⟨0x00000000, 0x3F800000, 0x3E4CCCCD, 77⟩,
   ⟨0x00000000, 0x3F800000, 0x3D4CCCCD, 75⟩
  ]

def paramMeta (i : Nat) : ParamMeta := paramTable.getD i ⟨0, 0, 0, 0⟩

/-- `2 r - 1 ≤ 2 x` for `x^12 = n / d`, that is `r ≤ x + 1/2`: `r` is at most `rha(x)`. -/
def atMostRounded (n d r : Nat) : Bool := decide ((2 * r - 1) ^ 12 * d ≤ 2 ^ 12 * n)

/-- `rha(x)` for the positive real `x` with `x^12 = n / d`, bit by bit from bit `k - 1` down; `x < 2^k` is assumed. -/
def roundedRoot (n d : Nat) : Nat → Nat → Nat
  | 0, r => r
  | k + 1, r => roundedRoot n d k (if atMostRounded n d (r + 2 ^ k) then r + 2 ^ k else r)

/-- How many bits the twelfth root of `n / d` can need, one to spare for the rounding. -/
def rootBits (n d : Nat) : Nat := Nat.log2 (n / d) / 12 + 2

/-- `wrap32(rha(f · 2^32 / (h · SR)))` exactly, for the frequency `f` of a table entry; `h` is 1 or 2
(42_oscillators.md R171, R172). -/
def incOfNote (f : NoteFreq) (h sr : Nat) : Word :=
  let n := f.num * 2 ^ 384
  let d := f.den * (h * sr) ^ 12
  wrap32 (roundedRoot n d (rootBits n d) 0)

/-- `NOTE_INC[n]` (42_oscillators.md R172). -/
def noteInc (c : Cfg) (n : Nat) : Word := incOfNote (c.noteHz.getD n ⟨0, 1⟩) 1 c.sr

/-- `SUB_INC[n]` (42_oscillators.md R172). -/
def subInc (c : Cfg) (n : Nat) : Word := incOfNote (c.noteHz.getD n ⟨0, 1⟩) 2 c.sr

/-- `SINE_ROM[i]` (43_sine_lut.md R200). -/
def sineRom (c : Cfg) (i : Nat) : Word := c.sineTable.getD i 0

/-- `idx(a)`: bits 31:22 (43_sine_lut.md R201). -/
def sineIdx (a : Word) : Nat := bits a 31 22

/-- `frac(a)`: bits 21:7 (43_sine_lut.md R201). -/
def sineFrac (a : Word) : Nat := bits a 21 7

/-- `sine_interp(a)` (43_sine_lut.md R202). -/
def sineInterp (c : Cfg) (a : Word) : Word :=
  let t0 := s32 (sineRom c (sineIdx a))
  let t1 := s32 (sineRom c ((sineIdx a + 1) % 1024))
  wrap32 (t0 + asr ((sineFrac a : Int) * (t1 - t0)) 15)

end Sys2Proof.Machine
end

