-- ==== Sys2Proof/Machine/State.lean ====
section
/-! DEFINITION. The block's state (10_state.md R20), the agents' pending inputs, and the state after reset
(70_reset_and_hazards.md R391). Everything is plain data. -/

namespace Sys2Proof.Machine

/-! ### Why a step can stop -/

/-- Faults of the model. Every fault the spec describes (60_exceptions.md R362) is recorded in STATUS and FAULT_INFO and
the block goes on (R361, R365), so it is a next state, and the type has no constructor (log 23). -/
inductive Fault where
  deriving DecidableEq, Repr

/-- Refusals of the model: inputs the spec says a model gives no meaning (00_scope.md R17). -/
inductive Refusal where
  /-- An instruction without a meaning yet; no arm of `exec` answers so. Safe: the model stops. -/
  | notModelled (mnemonic : String)
  /-- Raised by the step for an access that is not one aligned 32-bit word (20_memory.md R75). Safe: the model stops. -/
  | accessShape
  /-- Raised by the step for a configuration outside its legal values (00_scope.md R7). Safe: the model stops. -/
  | illegalConfig
  /-- Raised by running a command that is no UOP as a UOP; the UOP decoder never gives one. Safe: the model stops. -/
  | notAUop
  deriving DecidableEq, Repr

/-! ### The sequencer (10_state.md R21) -/

inductive Phase where
  | clear
  | drain
  | sample
  | frames
  | gain
  deriving DecidableEq, Repr

structure Seq where
  /-- `fill_state`: true is BUSY. -/
  busy : Bool
  /-- `fill_buf`. -/
  buf : Bool
  /-- `fill_phase`. -/
  phase : Phase
  /-- `fill_frame`. -/
  frame : Nat
  /-- `last_buf`. -/
  lastBuf : Bool
  deriving DecidableEq, Repr

/-- The three time parameters of an envelope (46_envelope.md R267). -/
inductive TimeField where
  | attack
  | decay
  | release
  deriving DecidableEq, Repr

/-- One unit of AUDIO's work inside a phase. W1, W2, E1, E2, E3, the cell loads, the FIFO polls and the accesses to output
words are each a unit of their own (20_memory.md R84; log 12). -/
inductive AudioOp where
  /-- CLEAR: word `i` of the buffer becomes 0, then word `i + 1` (49_polyphony.md R340). -/
  | clear (i : Nat)
  /-- W1 of a set_target (44_smoother.md R221). -/
  | w1 (id : SmId) (x : Word)
  /-- W2 of a set_target (44_smoother.md R221). -/
  | w2 (id : SmId)
  /-- The last action of a note-on: `env_note_on(v)` (48_voice.md R306). -/
  | envOn (v : Nat)
  /-- SAMPLE: the relaxed load of cell `i` (49_polyphony.md R337). -/
  | load (i : Nat)
  /-- SAMPLE: convert the loaded cell `i` and, if it differs from `LS[i]`, set the targets (49_polyphony.md R337). -/
  | conv (i : Nat)
  /-- Go to the next phase. -/
  | enter (p : Phase)
  /-- E1 of `sm_next`, with the advance where no target waits (44_smoother.md R223). -/
  | e1 (id : SmId)
  /-- E2 of `sm_next`. -/
  | e2 (id : SmId)
  /-- E3 of `sm_next` with the target E2 loaded, and the rest of the function. -/
  | e3 (id : SmId) (t : Word)
  /-- FRAMES: the accumulator becomes 0 (49_polyphony.md R338). -/
  | mixStart
  /-- FRAMES: render voice `v` unless it is Idle (49_polyphony.md R338, 48_voice.md R310). -/
  | voice (v : Nat)
  /-- The tick's step 1: latch the sustain level (46_envelope.md R266). -/
  | envSus (v : Nat)
  /-- The tick's step 2: `update_time` (46_envelope.md R267). -/
  | envTime (v : Nat) (f : TimeField)
  /-- The tick's step 3: the state machine (46_envelope.md R266). -/
  | envFsm (v : Nat)
  /-- The filter and the level product (48_voice.md R310). -/
  | ladder (v : Nat)
  /-- The velocity product, added to the accumulator (48_voice.md R310, 49_polyphony.md R338). -/
  | out (v : Nat)
  /-- FRAMES: scale and clamp the accumulator (49_polyphony.md R338). -/
  | mix
  /-- FRAMES: write the mixed sample to output word `i`. -/
  | mixStore (i : Nat)
  /-- GAIN: read output word `i` (49_polyphony.md R339). -/
  | gainLoad (i : Nat)
  /-- GAIN: write output word `i` times the smoothed gain. -/
  | gainStore (i : Nat)
  /-- FRAMES and GAIN: the frame ends. -/
  | frameNext
  deriving DecidableEq, Repr

/-- AUDIO's position inside a phase and the values it carries between two units: the model's own fields (log 12). -/
structure Work where
  todo : List AudioOp
  /-- The cell values the SAMPLE phase has loaded, cell 0 first. -/
  latch : List Word
  /-- The accumulator of 49_polyphony.md R338. -/
  acc : Word
  /-- The value one unit leaves for the next. -/
  tmp : Word
  /-- (word index, value) for every output word overwritten in the buffer being filled since its fill began: what a read
  may still return (20_memory.md R85; log 6). -/
  past : List (Nat × Word)
  deriving DecidableEq, Repr

/-! ### Control-port registers (10_state.md R22 to R25) -/

structure Regs where
  a : Word
  b : Word
  c : Word
  d : Word
  r : Word
  deriving DecidableEq, Repr

/-- The fault state: STATUS bits 20:16 (bit k of `sticky` is STATUS bit 16 + k) and the register FAULT_INFO. -/
structure FaultRegs where
  sticky : BitVec 5
  info : Word
  deriving DecidableEq, Repr

/-! ### Event FIFO (10_state.md R29) -/

/-- A FIFO slot: the packet, and per cell the number of parameter stores issued before its push (20_memory.md R82; log 5). -/
structure Slot where
  word : Word
  seen : List Nat
  deriving DecidableEq, Repr

structure Fifo where
  slots : List Slot
  head : Nat
  count : Nat
  deriving DecidableEq, Repr

/-! ### Parameter cells (10_state.md R30, R31) -/

/-- A value cell under the relaxed order of 20_memory.md R81: CONTROL's latest store, and the earlier stores an AUDIO load
may still return, oldest first; `base` counts the stores no load may return any more (log 5). -/
structure Cell where
  latest : Word
  older : List Word
  base : Nat
  deriving DecidableEq, Repr

/-- The sampled-parameter registers: `LS[0]` to `LS[8]`, `LS[11]`, `CUT_FIX`, `RES_FIX`. -/
structure Sampled where
  attack : Word
  decay : Word
  sustain : Word
  release : Word
  saw : Word
  pulse : Word
  sub : Word
  noise : Word
  width : Word
  master : Word
  cutFix : Word
  resFix : Word
  deriving DecidableEq, Repr

/-! ### Smoothers (10_state.md R32, R33) -/

structure Smoother where
  current : Word
  target : Word
  step : Word
  remaining : Word
  rampLength : Word
  pending : Word
  hasNew : Bool
  deriving DecidableEq, Repr

/-- Smoothers 0 to 5. -/
structure Mix where
  sawLvl : Smoother
  pulseLvl : Smoother
  subLvl : Smoother
  noiseLvl : Smoother
  pulseW : Smoother
  masterVol : Smoother
  deriving DecidableEq, Repr

/-! ### Voices (10_state.md R34 to R38) -/

/-- A phase accumulator (42_oscillators.md R170). -/
structure Osc where
  acc : Word
  inc : Word
  deriving DecidableEq, Repr

structure Ladder where
  s1 : Word
  s2 : Word
  s3 : Word
  s4 : Word
  deriving DecidableEq, Repr

inductive EnvState where
  | idle
  | stealFade
  | attack
  | decay
  | sustain
  | release
  deriving DecidableEq, Repr

structure Env where
  state : EnvState
  level : Word
  counter : Word
  attackSamples : Word
  decaySamples : Word
  releaseSamples : Word
  stealFadeSamples : Word
  sustainLevel : Word
  releaseStart : Word
  stealFadeStart : Word
  deriving DecidableEq, Repr

/-- One voice with its five smoothers. -/
structure Voice where
  midiNote : BitVec 7
  active : Bool
  saw : Osc
  pulse : Osc
  width : Word
  sub : Osc
  seed : Word
  lad : Ladder
  env : Env
  vel : Smoother
  sus : Smoother
  att : Smoother
  dec : Smoother
  rel : Smoother
  deriving DecidableEq, Repr

/-! ### The agents' pending inputs (the model's own fields) -/

/-- The three agents (00_scope.md R15). -/
inductive Agent where
  | control
  | driver
  | audio
  deriving DecidableEq, Repr

inductive Dir where
  | read
  | write
  deriving DecidableEq, Repr

/-- One request on the control port (30_encoding.md R119): direction, byte address, width in bytes, data of a write. -/
structure Access where
  dir : Dir
  addr : Nat
  width : Nat
  data : Word
  deriving DecidableEq, Repr

structure Port where
  /-- CONTROL's push that waits for a free FIFO slot (49_polyphony.md R321; log 15). -/
  pushWait : Option Word
  /-- The smoother whose W2 CONTROL has still to store (44_smoother.md R222; log 14). -/
  w2Wait : Option SmId
  /-- The accesses CONTROL has still to issue, oldest first (log 2). -/
  control : List Access
  /-- The accesses DRIVER has still to issue, oldest first (log 2). -/
  driver : List Access
  /-- The word CONTROL's last access delivered, if it delivered one (log 19). -/
  controlReply : Option Word
  /-- The word DRIVER's last access delivered, if it delivered one (log 19). -/
  driverReply : Option Word
  /-- The agents that move next (20_memory.md R80; log 24). -/
  sched : List Agent
  /-- The counter the free values are applied to (log 5, log 6). -/
  draws : Nat
  /-- The counter the choice of the agent that moves is drawn by (log 24). -/
  turns : Nat
  deriving DecidableEq, Repr

/-! ### Memory: the output buffers (10_state.md R40, 20_memory.md R71, R74) -/

/-- Bytes of the control-port space by byte offset from `BASE`, in the canonical form `Memory.wf`. -/
abbrev Memory := List Host.Cell

/-- What a byte nothing has written reads as. The spec gives any value (10_state.md R40): DESIGN CHOICE 0 (log 7, unsafe). -/
def Memory.unlisted : Byte := 0

/-- The canonical form: offsets strictly rising, no entry equal to what an unlisted offset reads as. -/
def Memory.wf : Memory → Bool
  | [] => true
  | [c] => c.2 != Memory.unlisted
  | c :: d :: m => c.2 != Memory.unlisted && Nat.blt c.1 d.1 && Memory.wf (d :: m)

/-! ### The whole state -/

structure State where
  /-- The configuration, never written by a step (log 3). -/
  cfg : Cfg
  seq : Seq
  work : Work
  regs : Regs
  flt : FaultRegs
  fifo : Fifo
  cells : List Cell
  sent : Sampled
  mix : Mix
  sine0 : Osc
  voices : List Voice
  /-- `last_stolen` (10_state.md R39). -/
  lastStolen : BitVec 3
  mem : Memory
  port : Port
  deriving DecidableEq, Repr

/-! ### Reset (70_reset_and_hazards.md R391) -/

/-- A smoother at rest at `x` (10_state.md R33). -/
def Smoother.rest (x : Word) (ramp : Nat) : Smoother where
  current := x
  target := x
  step := 0
  remaining := 0
  rampLength := BitVec.ofNat 32 ramp
  pending := 0
  hasNew := false

/-- Which of the two reset columns of 10_state.md R31 and R38 holds. -/
def slowRate (c : Cfg) : Bool := c.sr == 22050

def attack0 (c : Cfg) : Word := if slowRate c then 220 else 441
def decay0 (c : Cfg) : Word := if slowRate c then 4410 else 8820
def release0 (c : Cfg) : Word := if slowRate c then 2205 else 4410

/-- 10_state.md R31. -/
def Sampled.reset (c : Cfg) : Sampled where
  attack := attack0 c
  decay := decay0 c
  sustain := 9830
  release := release0 c
  saw := 32768
  pulse := 0
  sub := 0
  noise := 0
  width := 16384
  master := 1638
  cutFix := 16384
  resFix := 6554

/-- 10_state.md R32, R33. -/
def Mix.reset (c : Cfg) : Mix where
  sawLvl := .rest 32768 c.ramp10
  pulseLvl := .rest 0 c.ramp10
  subLvl := .rest 0 c.ramp10
  noiseLvl := .rest 0 c.ramp10
  pulseW := .rest 16384 c.ramp10
  masterVol := .rest 1638 c.ramp50

/-- 10_state.md R38. -/
def Env.reset (c : Cfg) : Env where
  state := .idle
  level := 0
  counter := 0
  attackSamples := attack0 c
  decaySamples := decay0 c
  releaseSamples := release0 c
  stealFadeSamples := BitVec.ofNat 32 c.stealFade
  sustainLevel := 9830
  releaseStart := 0
  stealFadeStart := 0

/-- 10_state.md R34 to R38. -/
def Voice.reset (c : Cfg) : Voice where
  midiNote := 0
  active := false
  saw := ⟨0, 0⟩
  pulse := ⟨0, 0⟩
  width := 16384
  sub := ⟨0, 0⟩
  seed := 0
  lad := ⟨0, 0, 0, 0⟩
  env := Env.reset c
  vel := .rest 0 c.ramp10
  sus := .rest 9830 c.ramp10
  att := .rest (attack0 c) c.ramp10
  dec := .rest (decay0 c) c.ramp10
  rel := .rest (release0 c) c.ramp10

/-- 10_state.md R30: every cell at its default, and no store to it but that one. -/
def resetCells : List Cell := paramTable.map fun m => ⟨m.default, [], 0⟩

/-- The state after power-on with a configuration. -/
def State.powerOn (c : Cfg) : State where
  cfg := c
  seq := ⟨false, false, .clear, 0, false⟩
  work := ⟨[], [], 0, 0, []⟩
  regs := ⟨0, 0, 0, 0, 0⟩
  flt := ⟨0, 0⟩
  fifo := ⟨List.replicate c.fifoDepth ⟨0, []⟩, 0, 0⟩
  cells := resetCells
  sent := Sampled.reset c
  mix := Mix.reset c
  sine0 := ⟨0, 0⟩
  voices := List.replicate c.nvoices (Voice.reset c)
  lastStolen := BitVec.ofNat 3 (c.nvoices - 1)
  mem := []
  port := ⟨none, none, [], [], none, none, [], 0, 0⟩

/-- The machine right after reset, with the default configuration of 00_scope.md R6. -/
def State.reset : State := State.powerOn Cfg.default

end Sys2Proof.Machine
end

