-- ==== Sys2Proof/Machine/Flags.lean ====
section
/-! DEFINITION. The status words: STATUS (10_state.md R24), CONFIG (R27), and the fault codes (60_exceptions.md R360).
The block has no condition flags (10_state.md R43). -/

namespace Sys2Proof.Machine

/-- 60_exceptions.md R360. -/
inductive FaultCode where
  | divz
  | illegal
  | busy
  | float
  | underrun
  deriving DecidableEq, Repr

def FaultCode.num : FaultCode → Nat
  | .divz => 0
  | .illegal => 1
  | .busy => 2
  | .float => 3
  | .underrun => 4

/-- STATUS bit `16 + code` as a bit of `sticky` (10_state.md R24). -/
def FaultCode.sticky (code : FaultCode) : BitVec 5 := BitVec.ofNat 5 (2 ^ code.num)

/-- `{info[23:0], VALID = 1, 0000, code[2:0]}` (60_exceptions.md R361). -/
def faultRecord (code : FaultCode) (info : BitVec 24) : Word :=
  BitVec.ofNat 32 (info.toNat * 2 ^ 8 + 2 ^ 7 + code.num)

/-- `FAULT_INFO.VALID`, bit 7 (10_state.md R25). -/
def FaultRegs.valid (f : FaultRegs) : Bool := bits f.info 7 7 == 1

/-- STATUS as a read returns it (10_state.md R24); reserved bits read 0. -/
def State.status (s : State) : Word :=
  BitVec.ofNat 32
    (s.seq.busy.toNat
      + 2 * (s.fifo.count == s.cfg.fifoDepth).toNat
      + 4 * (s.fifo.count == 0).toNat
      + 8 * s.seq.lastBuf.toNat
      + 2 ^ 8 * s.fifo.count
      + 2 ^ 16 * s.flt.sticky.toNat)

/-- CONFIG (10_state.md R27). -/
def configWord (c : Cfg) : Word :=
  BitVec.ofNat 32
    (c.nvoices
      + 2 ^ 4 * (c.sr == 22050).toNat
      + 2 ^ 5 * (c.frames == 128).toNat
      + 2 ^ 6 * (c.filter == .svf).toNat
      + 2 ^ 8 * Nat.log2 c.fifoDepth
      + 2 ^ 12 * c.mixShift)

end Sys2Proof.Machine
end

