-- ==== Sys2Proof/Machine/Ops.lean ====
section
/-! DEFINITION. The named operations over the state: recording a fault, the registers, the voices and smoothers, the
output memory, the free value. -/

namespace Sys2Proof.Machine

/-! ### Recording a fault (60_exceptions.md R361) -/

/-- `raise Fault(code, info)`: the sticky bit is set, and FAULT_INFO takes the first fault since reset. This is all a
fault does; there is no vector, no entry and no return (60_exceptions.md R366). -/
def State.raise (s : State) (code : FaultCode) (info : BitVec 24) : State :=
  { s with flt :=
      { sticky := s.flt.sticky ||| code.sticky
        info := if s.flt.valid then s.flt.info else faultRecord code info } }

/-! ### Registers -/

/-- `UOP_R <- v` (10_state.md R22). -/
def State.setR (s : State) (v : Word) : State := { s with regs := { s.regs with r := v } }

/-! ### The free values -/

/-- The next draw of the free value (log 5). -/
def State.draw (s : State) : Nat := Config.freeDraw s.port.draws

/-- The draw is used up. -/
def State.drawn (s : State) : State := { s with port := { s.port with draws := s.port.draws + 1 } }

/-! ### Voices and smoothers -/

/-- `V[v]`. Only indices below NVOICES occur; for any other the answer is a reset voice. -/
def State.voice (s : State) (v : Nat) : Voice := s.voices.getD v (Voice.reset s.cfg)

/-- `V[v] <- x`; no effect for an index that is no voice. -/
def State.setVoice (s : State) (v : Nat) (x : Voice) : State := { s with voices := s.voices.set v x }

def Mix.get (m : Mix) : GlobalSm → Smoother
  | .sawLvl => m.sawLvl
  | .pulseLvl => m.pulseLvl
  | .subLvl => m.subLvl
  | .noiseLvl => m.noiseLvl
  | .pulseW => m.pulseW
  | .masterVol => m.masterVol

def Mix.set (m : Mix) (g : GlobalSm) (x : Smoother) : Mix :=
  match g with
  | .sawLvl => { m with sawLvl := x }
  | .pulseLvl => { m with pulseLvl := x }
  | .subLvl => { m with subLvl := x }
  | .noiseLvl => { m with noiseLvl := x }
  | .pulseW => { m with pulseW := x }
  | .masterVol => { m with masterVol := x }

def Voice.getSm (x : Voice) : VoiceSm → Smoother
  | .vel => x.vel
  | .sus => x.sus
  | .att => x.att
  | .dec => x.dec
  | .rel => x.rel

def Voice.setSm (x : Voice) (k : VoiceSm) (m : Smoother) : Voice :=
  match k with
  | .vel => { x with vel := m }
  | .sus => { x with sus := m }
  | .att => { x with att := m }
  | .dec => { x with dec := m }
  | .rel => { x with rel := m }

/-- `SM[id]` (10_state.md R32). -/
def State.sm (s : State) : SmId → Smoother
  | .global g => s.mix.get g
  | .voice v k => (s.voice v).getSm k

/-- `SM[id] <- m`. -/
def State.setSm (s : State) (id : SmId) (m : Smoother) : State :=
  match id with
  | .global g => { s with mix := s.mix.set g m }
  | .voice v k => s.setVoice v ((s.voice v).setSm k m)

/-! ### Output memory -/

/-- The byte at an offset. -/
def Memory.readByte : Memory → Nat → Byte
  | [], _ => Memory.unlisted
  | c :: m, a => if c.1 = a then c.2 else Memory.readByte m a

/-- Store one byte, keeping the canonical form: writing what an unlisted offset reads as removes the entry. -/
def Memory.writeByte : Memory → Nat → Byte → Memory
  | [], a, v => if v = Memory.unlisted then [] else [(a, v)]
  | c :: m, a, v =>
    if a < c.1 then (if v = Memory.unlisted then c :: m else (a, v) :: c :: m)
    else if a = c.1 then (if v = Memory.unlisted then m else (a, v) :: m)
    else c :: Memory.writeByte m a v

/-- Byte `k` of a word is bits 8k+7:8k (20_memory.md R74). -/
def byteOf (w : Word) (k : Nat) : Byte := BitVec.ofNat 8 (w.toNat / 2 ^ (8 * k))

/-- The 32-bit word at an offset, byte k at offset + k (20_memory.md R74). -/
def Memory.readWord (m : Memory) (a : Nat) : Word :=
  m.readByte (a + 3) ++ m.readByte (a + 2) ++ m.readByte (a + 1) ++ m.readByte a

/-- Store a 32-bit word at an offset (20_memory.md R74). -/
def Memory.writeWord (m : Memory) (a : Nat) (w : Word) : Memory :=
  (((m.writeByte a (byteOf w 0)).writeByte (a + 1) (byteOf w 1)).writeByte (a + 2) (byteOf w 2)).writeByte (a + 3) (byteOf w 3)

/-- The offset of `OUTBUF[b]` word `i` (20_memory.md R71). -/
def outOffset (b : Bool) (i : Nat) : Nat := (if b then 0x1400 else 0x1000) + 4 * i

/-- `OUTBUF[b][i]` as the last store left it. -/
def State.outWord (s : State) (b : Bool) (i : Nat) : Word := s.mem.readWord (outOffset b i)

/-- `OUTBUF[b][i] <- w`. A word overwritten in the buffer being filled stays readable until the fill ends
(20_memory.md R85; log 6). -/
def State.storeOut (s : State) (b : Bool) (i : Nat) (w : Word) : State :=
  { s with
    mem := s.mem.writeWord (outOffset b i) w
    work := if s.seq.busy && s.seq.buf == b then { s.work with past := s.work.past ++ [(i, s.outWord b i)] } else s.work }

/-- The values a port read of `OUTBUF[b][i]` may return (20_memory.md R85): the word, and during the fill of `b` the values
it held since that fill began. -/
def State.outCandidates (s : State) (b : Bool) (i : Nat) : List Word :=
  if s.seq.busy && s.seq.buf == b then ((s.work.past.filter fun p => p.1 == i).map Prod.snd) ++ [s.outWord b i]
  else [s.outWord b i]

/-- `OUTBUF[b][i]` as a port read returns it: a draw among those values, none where there is one only. The draw hangs on
the counter and the word, and a read leaves the counter alone, so a second read with no write and no step of AUDIO between
returns the same word (20_memory.md R78, R85; log 6). -/
def State.readOut (s : State) (b : Bool) (i : Nat) : Word :=
  match s.outCandidates b i with
  | [x] => x
  | xs => xs.getD (Config.freeRead s.port.draws i % xs.length) 0

/-! ### AUDIO's work list -/

/-- Units done next, before what is already to be done. -/
def State.doFirst (s : State) (ops : List AudioOp) : State :=
  { s with work := { s.work with todo := ops ++ s.work.todo } }

end Sys2Proof.Machine
end

