-- ==== Sys2Proof/Machine/Operands.lean ====
section
/-! DEFINITION. The operand forms of the commands: units and their admission (30_encoding.md R115), the checks a UOP
passes (60_exceptions.md R364), notes and velocities (30_encoding.md R112). The operands UOP_A to UOP_D themselves are
`s.regs.a` to `s.regs.d`, read as s32, u32 or binary32 by each meaning (30_encoding.md R114). -/

namespace Sys2Proof.Machine

/-- `word[31:8]` of a UOP word with `RSV = 0` (60_exceptions.md R362). -/
def uopInfo (op unit : Nat) : BitVec 24 := BitVec.ofNat 24 (op * 2 ^ 16 + unit * 2 ^ 8)

/-- `word[31:8]` of any word (60_exceptions.md R362). -/
def wordInfo (w : Word) : BitVec 24 := BitVec.ofNat 24 (bits w 31 8)

/-- The checks before a UOP's own effect, in the order of 60_exceptions.md R364: a UNIT the configuration does not admit
is ILLEGAL (30_encoding.md R115); an audio-exclusive UOP during a fill is BUSY (30_encoding.md R116). -/
def State.uop (s : State) (op unit : Nat) (admitted exclusive : Bool) (effect : State → State) :
    Host.Outcome State Fault Refusal :=
  .next
    (if !admitted then s.raise .illegal (uopInfo op unit)
     else if exclusive && s.seq.busy then s.raise .busy (uopInfo op unit)
     else effect s)

/-- A voice index of the configuration (30_encoding.md R115). -/
def voiceAdmitted (c : Cfg) (v : Nat) : Bool := Nat.blt v c.nvoices

/-- An oscillator of the configuration: SINE with v = 0, any other kind with v < NVOICES (30_encoding.md R115). -/
def oscAdmitted (c : Cfg) (v : Nat) (k : Kind) : Bool :=
  match k with
  | .sine => v == 0
  | .saw | .pulse | .sub | .noise => Nat.blt v c.nvoices

/-- A valid smoother id (10_state.md R32). -/
def smAdmitted (c : Cfg) : SmId → Bool
  | .global _ => true
  | .voice v _ => Nat.blt v c.nvoices

/-- `min(note, 127)` of a 32-bit note operand (48_voice.md R306, 47_filter.md R298, 49_polyphony.md R336). -/
def noteOf (w : Word) : BitVec 7 := BitVec.ofNat 7 (min w.toNat 127)

/-- `min(D1, 127)` (30_encoding.md R112). -/
def noteOfByte (d : Byte) : BitVec 7 := BitVec.ofNat 7 (min d.toNat 127)

/-- `vel_map(min(D2, 127)) = rha(vel7 · 32768 / 127)` (49_polyphony.md R331). -/
def velMap (d2 : Byte) : Word := wrap32 (rha ((min d2.toNat 127 : Nat) * 32768) 127)

end Sys2Proof.Machine
end

