-- ==== Sys2Proof/Machine/Params.lean ====
section
/-! DEFINITION. The parameter cells (45_parameters.md): stores and loads under the relaxed order of 20_memory.md R81 and
R82, the normalized view, and the PARAM-class UOPs. -/

namespace Sys2Proof.Machine

/-! ### One cell -/

/-- A CONTROL store (20_memory.md R81). -/
def Cell.store (c : Cell) (x : Word) : Cell := { c with latest := x, older := c.older ++ [c.latest] }

/-- The values an AUDIO load may return, oldest first (20_memory.md R81 item 1). -/
def Cell.visible (c : Cell) : List Word := c.older ++ [c.latest]

/-- The number of the latest store; the reset value is store 0. -/
def Cell.issued (c : Cell) : Nat := c.base + c.older.length

/-- The stores numbered below `n` can be returned no more (20_memory.md R81 item 2, R82 item 2). The latest stays. -/
def Cell.forget (c : Cell) (n : Nat) : Cell :=
  { c with
    older := c.older.drop (n - c.base)
    base := c.base + min (n - c.base) c.older.length }

/-- An AUDIO load that returns the `k`-th visible value: no later load returns an older one (20_memory.md R81 item 2). -/
def Cell.load (c : Cell) (k : Nat) : Word × Cell := (c.visible.getD k c.latest, c.forget (c.base + k))

/-- After the poll of a packet pushed when `seen[i]` was cell `i`'s latest store (20_memory.md R82 item 2). -/
def forgetAll : List Cell → List Nat → List Cell
  | [], _ => []
  | cs, [] => cs
  | c :: cs, n :: ns => c.forget n :: forgetAll cs ns

def State.cell (s : State) (i : Nat) : Cell := s.cells.getD i ⟨0, [], 0⟩

/-! ### `param_set_value`, `param_set_normalized`, `param_get_normalized` -/

/-- The value `param_set_value` stores for an operand that is no NaN (45_parameters.md R242). -/
def paramClamp (i : Nat) (x : Word) : Word :=
  if fpLt x (paramMeta i).min then (paramMeta i).min
  else if fpLt (paramMeta i).max x then (paramMeta i).max
  else x

/-- `CELL[i] <- bits(y)` (45_parameters.md R242). -/
def State.storeCell (s : State) (i : Nat) (x : Word) : State :=
  { s with cells := s.cells.set i ((s.cell i).store (paramClamp i x)) }

/-- The value of 45_parameters.md R246 for an operand that is no NaN. -/
def paramDenormalize (i : Nat) (n : Word) : Word :=
  let c := if fpLt n 0 then 0 else if fpLt 0x3F800000 n then 0x3F800000 else n
  let d := fpSub (paramMeta i).max (paramMeta i).min
  fpAdd (paramMeta i).min (fpMul c d)

/-- 45_parameters.md R248. -/
def paramNormalize (i : Nat) (x : Word) : Word :=
  fpDiv (fpSub x (paramMeta i).min) (fpSub (paramMeta i).max (paramMeta i).min)

/-- The selectors of PARAM_GET (45_parameters.md R245). -/
def State.paramField (s : State) (i sel : Nat) : Option Word :=
  match sel with
  | 0 => some (s.cell i).latest
  | 1 => some (paramMeta i).min
  | 2 => some (paramMeta i).max
  | 3 => some (paramMeta i).default
  | 4 => some (BitVec.ofNat 32 (paramMeta i).cc)
  | _ => none

/-! ### The UOPs -/

/-- 45_parameters.md R243. -/
def execParamSet (i : Fin 12) (s : State) : Host.Outcome State Fault Refusal :=
  .next (if fIsNaN s.regs.a then s.raise .float (uopInfo 0x40 i.val) else s.storeCell i.val s.regs.a)

/-- 45_parameters.md R247. -/
def execParamSetn (i : Fin 12) (s : State) : Host.Outcome State Fault Refusal :=
  .next (if fIsNaN s.regs.a then s.raise .float (uopInfo 0x41 i.val)
    else s.storeCell i.val (paramDenormalize i.val s.regs.a))

/-- 45_parameters.md R245. -/
def execParamGet (i : Fin 12) (s : State) : Host.Outcome State Fault Refusal :=
  .next (match s.paramField i.val s.regs.b.toNat with
    | some v => s.setR v
    | none => s.raise .illegal (uopInfo 0x42 i.val))

/-- 45_parameters.md R249. -/
def execParamGetn (i : Fin 12) (s : State) : Host.Outcome State Fault Refusal :=
  .next (s.setR (paramNormalize i.val (s.cell i.val).latest))

end Sys2Proof.Machine
end

