-- ==== Sys2Proof/Machine/Smoothers.lean ====
section
/-! DEFINITION. The smoothers: the functions of 44_smoother.md R217 to R223, whole and in the separate events of
20_memory.md R83, and the SM-class UOPs. -/

namespace Sys2Proof.Machine

/-! ### The writer's events (44_smoother.md R221) -/

/-- W1: `pending_target <- x`. -/
def Smoother.storePending (m : Smoother) (x : Word) : Smoother := { m with pending := x }

/-- W2: `has_new_target <- 1`. -/
def Smoother.storeFlag (m : Smoother) : Smoother := { m with hasNew := true }

/-- `sm_set_target` with no step of another agent between W1 and W2. -/
def Smoother.setTarget (m : Smoother) (x : Word) : Smoother := (m.storePending x).storeFlag

/-! ### The reader's events (44_smoother.md R223) -/

/-- From E3 on: the flag is cleared and the loaded target `t` taken. -/
def Smoother.take (m : Smoother) (t : Word) : Smoother :=
  if m.rampLength = 0 then
    { m with hasNew := false, target := t, current := t, step := 0, remaining := 0 }
  else
    { m with
      hasNew := false
      target := t
      step := wrap32 (tdiv (s32 (fsub t m.current)) (u32 m.rampLength))
      remaining := m.rampLength }

/-- The advance: one step, exactly onto the target on the last one. -/
def Smoother.advance (m : Smoother) : Smoother :=
  if m.remaining = 0 then m
  else if m.remaining = 1 then { m with current := m.target, remaining := 0 }
  else { m with current := fadd m.current m.step, remaining := m.remaining - 1 }

/-- `sm_next` with no step of another agent inside; its result is `current` afterwards (44_smoother.md R223). -/
def Smoother.next (m : Smoother) : Smoother := (if m.hasNew then m.take m.pending else m).advance

/-! ### The other functions -/

/-- `sm_reset` (44_smoother.md R217). -/
def Smoother.setRamp (m : Smoother) (n : Word) : Smoother := { m with rampLength := n }

/-- `sm_set_value` (44_smoother.md R219). -/
def Smoother.setValue (m : Smoother) (x : Word) : Smoother :=
  { m with current := x, target := x, step := 0, remaining := 0, hasNew := false }

/-- The selectors of SM_READ (44_smoother.md R225). -/
def Smoother.field (m : Smoother) (sel : Nat) : Option Word :=
  match sel with
  | 0 => some m.current
  | 1 => some m.target
  | 2 => some m.step
  | 3 => some m.remaining
  | 4 => some m.rampLength
  | 5 => some m.pending
  | 6 => some (BitVec.ofNat 32 m.hasNew.toNat)
  | _ => none

/-! ### The UOPs -/

/-- 44_smoother.md R217. -/
def execSmReset (id : SmId) (s : State) : Host.Outcome State Fault Refusal :=
  s.uop 0x30 (encodeSm id) (smAdmitted s.cfg id) true fun s => s.setSm id ((s.sm id).setRamp s.regs.a)

/-- 44_smoother.md R220. -/
def execSmSetvalue (id : SmId) (s : State) : Host.Outcome State Fault Refusal :=
  s.uop 0x31 (encodeSm id) (smAdmitted s.cfg id) true fun s => s.setSm id ((s.sm id).setValue s.regs.a)

/-- 44_smoother.md R222: W1 now, and W2 as CONTROL's next step, before its next access (20_memory.md R80, R84; log 14). -/
def execSmSettarget (id : SmId) (s : State) : Host.Outcome State Fault Refusal :=
  s.uop 0x32 (encodeSm id) (smAdmitted s.cfg id) false fun s =>
    let t := s.setSm id ((s.sm id).storePending s.regs.a)
    { t with port := { t.port with w2Wait := some id } }

/-- CONTROL's W2 (44_smoother.md R221). -/
def State.finishSettarget (s : State) (id : SmId) : State :=
  let t := s.setSm id (s.sm id).storeFlag
  { t with port := { t.port with w2Wait := none } }

/-- 44_smoother.md R224. -/
def execSmNext (id : SmId) (s : State) : Host.Outcome State Fault Refusal :=
  s.uop 0x33 (encodeSm id) (smAdmitted s.cfg id) true fun s =>
    (s.setSm id (s.sm id).next).setR (s.sm id).next.current

/-- 44_smoother.md R225. -/
def execSmRead (id : SmId) (s : State) : Host.Outcome State Fault Refusal :=
  s.uop 0x34 (encodeSm id) (smAdmitted s.cfg id) true fun s =>
    match (s.sm id).field s.regs.b.toNat with
    | some v => s.setR v
    | none => s.raise .illegal (uopInfo 0x34 (encodeSm id))

end Sys2Proof.Machine
end

