-- ==== Sys2Proof/Machine/Envelope.lean ====
section
/-! DEFINITION. The ADSR envelope with steal fade (46_envelope.md) and the UOPs ENV_*. -/

namespace Sys2Proof.Machine

/-- The state codes of 10_state.md R38. -/
def EnvState.code : EnvState → Nat
  | .idle => 0
  | .stealFade => 1
  | .attack => 2
  | .decay => 3
  | .sustain => 4
  | .release => 5

/-- `p(c, T)` (46_envelope.md R261). -/
def phaseFrac (c T : Nat) : Word := if T = 0 then 32768 else BitVec.ofNat 32 (min 32768 (c * 32768 / T))

/-- The phase length of the present state (46_envelope.md R260); Idle and Sustain are not timed. -/
def Env.phaseLength (e : Env) : Nat :=
  match e.state with
  | .stealFade => u32 e.stealFadeSamples
  | .attack => u32 e.attackSamples
  | .decay => u32 e.decaySamples
  | .release => u32 e.releaseSamples
  | .idle | .sustain => 0

/-- `level_of(state, c, T)` (46_envelope.md R262); Idle and Sustain have no such level. -/
def Env.levelOf (e : Env) (c T : Nat) : Word :=
  let p := phaseFrac c T
  match e.state with
  | .attack => p
  | .decay => fsub fxOne (fmul p (fsub fxOne e.sustainLevel))
  | .release => fmul e.releaseStart (fsub fxOne p)
  | .stealFade => fmul e.stealFadeStart (fsub fxOne p)
  | .idle | .sustain => e.level

/-- `env_note_on` (46_envelope.md R264). -/
def Env.noteOn (e : Env) : Env :=
  if e.state = .stealFade then e
  else if 0 < s32 e.level then { e with stealFadeStart := e.level, state := .stealFade, counter := 0 }
  else { e with state := .attack, counter := 0, level := 0 }

/-- `env_note_off` (46_envelope.md R265). -/
def Env.noteOff (e : Env) : Env :=
  if e.state = .idle then e else { e with releaseStart := e.level, state := .release, counter := 0 }

/-! ### The tick (46_envelope.md R266) -/

def Env.timeOf (e : Env) : TimeField → Word
  | .attack => e.attackSamples
  | .decay => e.decaySamples
  | .release => e.releaseSamples

def Env.setTime (e : Env) (f : TimeField) (n : Word) : Env :=
  match f with
  | .attack => { e with attackSamples := n }
  | .decay => { e with decaySamples := n }
  | .release => { e with releaseSamples := n }

/-- The state whose phase a time field is the length of. -/
def TimeField.phase : TimeField → EnvState
  | .attack => .attack
  | .decay => .decay
  | .release => .release

/-- `inverse(state, Tn)` (46_envelope.md R268), for the phase of `f`. -/
def Env.inverse (e : Env) (f : TimeField) (n : Nat) : Int :=
  let l := s32 e.level
  match f with
  | .attack => max 0 l * n / 2 ^ 15
  | .decay =>
    let den := 32768 - s32 e.sustainLevel
    if den ≤ 0 then n else max 0 (32768 - l) * n / den
  | .release =>
    let r := s32 e.releaseStart
    if r ≤ 0 then n else max 0 (r - l) * n / r

/-- `update_time(v, field, Tn)` (46_envelope.md R267). -/
def Env.updateTime (e : Env) (f : TimeField) (n : Nat) : Env :=
  if n = u32 (e.timeOf f) then e
  else if e.state = f.phase ∧ 0 < n ∧ 32768 < u32 e.counter * 2 ^ 15 / n then
    { e with counter := wrap32 (iclamp (e.inverse f n) 0 n) }.setTime f (BitVec.ofNat 32 n)
  else e.setTime f (BitVec.ofNat 32 n)

/-- The end of a timed phase: the next state and its transition level (46_envelope.md R266 step 3). -/
def Env.transition (e : Env) : Env :=
  match e.state with
  | .attack => { e with counter := 0, state := .decay, level := fxOne }
  | .decay => { e with counter := 0, state := .sustain, level := e.sustainLevel }
  | .release => { e with counter := 0, state := .idle, level := 0 }
  | .stealFade => { e with counter := 0, state := .attack, level := 0 }
  | .idle | .sustain => e

/-- Step 3 of the tick (46_envelope.md R266, R269); `target` is `SM[SUS(v)].target`. -/
def Env.stateMachine (e : Env) (target : Word) : Env :=
  match e.state with
  | .idle => { e with level := 0 }
  | .sustain => { e with level := if target = 0 then 0 else e.sustainLevel }
  | .stealFade | .attack | .decay | .release =>
    if e.phaseLength ≤ u32 e.counter + 1 then e.transition
    else { e with
      counter := BitVec.ofNat 32 (u32 e.counter + 1)
      level := e.levelOf (u32 e.counter + 1) e.phaseLength }

/-- The smoother a time field follows. -/
def TimeField.smoother : TimeField → VoiceSm
  | .attack => .att
  | .decay => .dec
  | .release => .rel

/-- Step 1 after its `sm_next`. -/
def Voice.latchSustain (x : Voice) : Voice := { x with env := { x.env with sustainLevel := x.sus.current } }

/-- One field of step 2 after its `sm_next`: `max(0, s32(·))`. -/
def Voice.latchTime (x : Voice) (f : TimeField) : Voice :=
  { x with env := x.env.updateTime f (s32 (x.getSm f.smoother).current).toNat }

/-- Step 3. -/
def Voice.tickState (x : Voice) : Voice := { x with env := x.env.stateMachine x.sus.target }

/-- `sm_next` of one of the voice's smoothers. -/
def Voice.nextSm (x : Voice) (k : VoiceSm) : Voice := x.setSm k (x.getSm k).next

/-- `env_tick(v)` (46_envelope.md R266); its result is the level afterwards. -/
def Voice.envTick (x : Voice) : Voice :=
  ((((((((x.nextSm .sus).latchSustain).nextSm .att).latchTime .attack).nextSm .dec).latchTime .decay).nextSm .rel).latchTime
    .release).tickState

/-- The selectors of ENV_READ (46_envelope.md R273). -/
def Env.field (e : Env) (sel : Nat) : Option Word :=
  match sel with
  | 0 => some (BitVec.ofNat 32 e.state.code)
  | 1 => some e.level
  | 2 => some e.counter
  | 3 => some e.attackSamples
  | 4 => some e.decaySamples
  | 5 => some e.releaseSamples
  | 6 => some e.stealFadeSamples
  | 7 => some e.sustainLevel
  | 8 => some e.releaseStart
  | 9 => some e.stealFadeStart
  | _ => none

/-! ### The UOPs -/

/-- 46_envelope.md R270. -/
def execEnvNoteOn (v : Nat) (s : State) : Host.Outcome State Fault Refusal :=
  s.uop 0x50 v (voiceAdmitted s.cfg v) true fun s => s.setVoice v { s.voice v with env := (s.voice v).env.noteOn }

/-- 46_envelope.md R271. -/
def execEnvNoteOff (v : Nat) (s : State) : Host.Outcome State Fault Refusal :=
  s.uop 0x51 v (voiceAdmitted s.cfg v) true fun s => s.setVoice v { s.voice v with env := (s.voice v).env.noteOff }

/-- 46_envelope.md R272. -/
def execEnvTick (v : Nat) (s : State) : Host.Outcome State Fault Refusal :=
  s.uop 0x52 v (voiceAdmitted s.cfg v) true fun s =>
    (s.setVoice v (s.voice v).envTick).setR (s.voice v).envTick.env.level

/-- 46_envelope.md R273. -/
def execEnvRead (v : Nat) (s : State) : Host.Outcome State Fault Refusal :=
  s.uop 0x53 v (voiceAdmitted s.cfg v) true fun s =>
    match (s.voice v).env.field s.regs.b.toNat with
    | some x => s.setR x
    | none => s.raise .illegal (uopInfo 0x53 v)

/-- 46_envelope.md R274. -/
def execEnvLevel (v : Nat) (s : State) : Host.Outcome State Fault Refusal :=
  s.uop 0x54 v (voiceAdmitted s.cfg v) true fun s => s.setR (s.voice v).env.level

end Sys2Proof.Machine
end

