-- ==== Sys2Proof/Machine/LadderFilter.lean ====
section
/-! DEFINITION. The ladder filter (47_filter.md) and its UOPs; the reserved SVF_STEP (R302). -/

namespace Sys2Proof.Machine

/-- 47_filter.md R290. -/
def ladderG (cut : Word) : Word := fadd 33 (fmul 27787 cut)

/-- 47_filter.md R291. -/
def ladderRes (r : Word) : Word := fmul 127795 r

/-- `wrap32(tdiv((note - 60) · 32768, 12))` (47_filter.md R292, R303). -/
def keyTerm (note : BitVec 7) : Word := wrap32 (tdiv (((note.toNat : Int) - 60) * 32768) 12)

/-- 47_filter.md R292. -/
def cutoffMod (c : Cfg) (base lvl : Word) (note : BitVec 7) : Word :=
  fclamp (fadd (fadd base (fmul c.envAmount lvl)) (fmul c.keyTrack (fmul (keyTerm note) 9830))) 0 fxOne

/-- One stage: `s + g · (u - s)` (47_filter.md R293). -/
def stage (g u s : Word) : Word := fadd s (fmul g (fsub u s))

/-- `fb`: the input less the feedback, clamped to ±16.0 (47_filter.md R293). -/
def Ladder.feedback (l : Ladder) (x res : Word) : Word :=
  fclamp (fsub x (fmul res l.s4)) (wrap32 (-lim16)) (wrap32 lim16)

/-- The stages after one sample; each reads the new value of the one before (47_filter.md R293). -/
def Ladder.step (l : Ladder) (x g res : Word) : Ladder :=
  let s1 := stage g (l.feedback x res) l.s1
  let s2 := stage g s1 l.s2
  let s3 := stage g s2 l.s3
  let s4 := fclamp (stage g s3 l.s4) (wrap32 (-lim8)) (wrap32 lim8)
  ⟨s1, s2, s3, s4⟩

/-- The output of a sample from the stages after it: makeup gain 2.5, clamped to ±16.0 (47_filter.md R293). -/
def Ladder.output (l : Ladder) : Word := fclamp (fmul l.s4 81920) (wrap32 (-lim16)) (wrap32 lim16)

/-- The selectors of LADDER_READ (47_filter.md R299). -/
def Ladder.field (l : Ladder) (sel : Nat) : Option Word :=
  match sel with
  | 0 => some l.s1
  | 1 => some l.s2
  | 2 => some l.s3
  | 3 => some l.s4
  | _ => none

/-! ### The UOPs -/

/-- 47_filter.md R295. -/
def execLadderStep (v : Nat) (s : State) : Host.Outcome State Fault Refusal :=
  s.uop 0x60 v (voiceAdmitted s.cfg v) true fun s =>
    let l := (s.voice v).lad.step s.regs.a s.regs.b s.regs.c
    (s.setVoice v { s.voice v with lad := l }).setR l.output

/-- 47_filter.md R296. -/
def execLadderG (s : State) : Host.Outcome State Fault Refusal := .next (s.setR (ladderG s.regs.a))

/-- 47_filter.md R297. -/
def execLadderRes (s : State) : Host.Outcome State Fault Refusal := .next (s.setR (ladderRes s.regs.a))

/-- 47_filter.md R298. -/
def execCutoffMod (s : State) : Host.Outcome State Fault Refusal :=
  .next (s.setR (cutoffMod s.cfg s.regs.a s.regs.b (noteOf s.regs.c)))

/-- 47_filter.md R299. -/
def execLadderRead (v : Nat) (s : State) : Host.Outcome State Fault Refusal :=
  s.uop 0x64 v (voiceAdmitted s.cfg v) true fun s =>
    match (s.voice v).lad.field s.regs.b.toNat with
    | some x => s.setR x
    | none => s.raise .illegal (uopInfo 0x64 v)

/-- 47_filter.md R302: ILLEGAL in every configuration. -/
def execSvfStep (low : BitVec 24) (s : State) : Host.Outcome State Fault Refusal :=
  .next (s.raise .illegal (wordInfo (encode (.svfStep low))))

end Sys2Proof.Machine
end

