-- ==== Sys2Proof/Machine/Oscillators.lean ====
section
/-! DEFINITION. The oscillators: sample functions (42_oscillators.md R180 to R187), the OSC-class UOPs (R174 to R179) and
the sine unit (43_sine_lut.md R203, R204). -/

namespace Sys2Proof.Machine

/-! ### Sample functions: the value emitted, and the voice after the advance (42_oscillators.md R173) -/

/-- `acc <- wrap32(u32(acc) + u32(inc))` (42_oscillators.md R170). -/
def Osc.advance (o : Osc) : Osc := { o with acc := wrap32 (u32 o.acc + u32 o.inc) }

/-- 42_oscillators.md R181. -/
def sawSample (acc : Word) : Word := wrap32 ((bits acc 31 16 : Int) - 32768)

/-- 42_oscillators.md R183: `ph = acc >>l 17` against the s32 width. -/
def pulseSample (acc width : Word) : Word :=
  if (bits acc 31 17 : Int) < s32 width then wrap32 32768 else wrap32 (-32768)

/-- 42_oscillators.md R185. -/
def subSample (acc : Word) : Word := if bits acc 31 17 < 16384 then wrap32 32768 else wrap32 (-32768)

/-- 42_oscillators.md R187: `sext_16(seed[31:16])`. -/
def noiseSample (seed : Word) : Word := wrap32 (asr (s32 seed) 16)

/-- 42_oscillators.md R187. -/
def lcg (seed : Word) : Word := wrap32 (u32 seed * 1664525 + 1013904223)

def Voice.sawNext (x : Voice) : Word × Voice := (sawSample x.saw.acc, { x with saw := x.saw.advance })
def Voice.pulseNext (x : Voice) : Word × Voice := (pulseSample x.pulse.acc x.width, { x with pulse := x.pulse.advance })
def Voice.subNext (x : Voice) : Word × Voice := (subSample x.sub.acc, { x with sub := x.sub.advance })
def Voice.noiseNext (x : Voice) : Word × Voice := (noiseSample x.seed, { x with seed := lcg x.seed })

/-- `UOP_R <-` the sample of voice `v`, and the voice advances. -/
def State.emit (s : State) (v : Nat) (r : Word × Voice) : State := (s.setVoice v r.2).setR r.1

/-! ### Control of one oscillator -/

/-- `reset_phase` (42_oscillators.md R175). -/
def Voice.oscReset (x : Voice) (k : Kind) : Voice :=
  match k with
  | .saw => { x with saw := { x.saw with acc := 0 } }
  | .pulse => { x with pulse := { x.pulse with acc := 0 } }
  | .sub => { x with sub := { x.sub with acc := 0 } }
  | .noise => { x with seed := 0 }
  | .sine => x

/-- `inc <- i`; noise has no increment (42_oscillators.md R176). -/
def Voice.oscSetInc (x : Voice) (k : Kind) (i : Word) : Voice :=
  match k with
  | .saw => { x with saw := { x.saw with inc := i } }
  | .pulse => { x with pulse := { x.pulse with inc := i } }
  | .sub => { x with sub := { x.sub with inc := i } }
  | .noise => x
  | .sine => x

def State.oscReset (s : State) (v : Nat) (k : Kind) : State :=
  match k with
  | .sine => { s with sine0 := { s.sine0 with acc := 0 } }
  | .saw | .pulse | .sub | .noise => s.setVoice v ((s.voice v).oscReset k)

def State.oscSetInc (s : State) (v : Nat) (k : Kind) (i : Word) : State :=
  match k with
  | .sine => { s with sine0 := { s.sine0 with inc := i } }
  | .noise => s
  | .saw | .pulse | .sub => s.setVoice v ((s.voice v).oscSetInc k i)

/-- Selector 0 of OSC_READ (42_oscillators.md R178). -/
def State.oscAcc (s : State) (v : Nat) (k : Kind) : Word :=
  match k with
  | .saw => (s.voice v).saw.acc
  | .pulse => (s.voice v).pulse.acc
  | .sub => (s.voice v).sub.acc
  | .noise => (s.voice v).seed
  | .sine => s.sine0.acc

/-- Selector 1 of OSC_READ (42_oscillators.md R178). -/
def State.oscInc (s : State) (v : Nat) (k : Kind) : Word :=
  match k with
  | .saw => (s.voice v).saw.inc
  | .pulse => (s.voice v).pulse.inc
  | .sub => (s.voice v).sub.inc
  | .noise => 0
  | .sine => s.sine0.inc

/-- Selector 2 of OSC_READ (42_oscillators.md R178). -/
def State.oscWidth (s : State) (v : Nat) (k : Kind) : Word :=
  match k with
  | .pulse => (s.voice v).width
  | .saw | .sub | .noise | .sine => 0

/-! ### The UOPs -/

/-- 42_oscillators.md R175. -/
def execOscReset (v : Nat) (k : Kind) (s : State) : Host.Outcome State Fault Refusal :=
  s.uop 0x20 (encodeOsc v k) (oscAdmitted s.cfg v k) true fun s => s.oscReset v k

/-- 42_oscillators.md R176. -/
def execOscSetinc (v : Nat) (k : Kind) (s : State) : Host.Outcome State Fault Refusal :=
  s.uop 0x21 (encodeOsc v k) (oscAdmitted s.cfg v k) true fun s => s.oscSetInc v k s.regs.a

/-- 42_oscillators.md R180. -/
def execSawNext (v : Nat) (s : State) : Host.Outcome State Fault Refusal :=
  s.uop 0x22 (encodeOsc v .saw) (voiceAdmitted s.cfg v) true fun s => s.emit v (s.voice v).sawNext

/-- 42_oscillators.md R182. -/
def execPulseNext (v : Nat) (s : State) : Host.Outcome State Fault Refusal :=
  s.uop 0x22 (encodeOsc v .pulse) (voiceAdmitted s.cfg v) true fun s => s.emit v (s.voice v).pulseNext

/-- 42_oscillators.md R184. -/
def execSubNext (v : Nat) (s : State) : Host.Outcome State Fault Refusal :=
  s.uop 0x22 (encodeOsc v .sub) (voiceAdmitted s.cfg v) true fun s => s.emit v (s.voice v).subNext

/-- 42_oscillators.md R186. -/
def execNoiseNext (v : Nat) (s : State) : Host.Outcome State Fault Refusal :=
  s.uop 0x22 (encodeOsc v .noise) (voiceAdmitted s.cfg v) true fun s => s.emit v (s.voice v).noiseNext

/-- 43_sine_lut.md R204. -/
def execSineNext (s : State) : Host.Outcome State Fault Refusal :=
  s.uop 0x22 0x04 true true fun s =>
    { s with sine0 := s.sine0.advance }.setR (sineInterp s.cfg s.sine0.acc)

/-- 42_oscillators.md R177. -/
def execPulseSetw (v : Nat) (s : State) : Host.Outcome State Fault Refusal :=
  s.uop 0x23 (encodeOsc v .pulse) (voiceAdmitted s.cfg v) true fun s =>
    s.setVoice v { s.voice v with width := s.regs.a }

/-- 42_oscillators.md R178. -/
def execOscRead (v : Nat) (k : Kind) (s : State) : Host.Outcome State Fault Refusal :=
  s.uop 0x24 (encodeOsc v k) (oscAdmitted s.cfg v k) true fun s =>
    match s.regs.b.toNat with
    | 0 => s.setR (s.oscAcc v k)
    | 1 => s.setR (s.oscInc v k)
    | 2 => s.setR (s.oscWidth v k)
    | _ => s.raise .illegal (uopInfo 0x24 (encodeOsc v k))

/-- 42_oscillators.md R179: noise ignores its operand; NaN and infinity record FLOAT; SUB halves the frequency. -/
def execOscSetfreq (v : Nat) (k : Kind) (s : State) : Host.Outcome State Fault Refusal :=
  s.uop 0x25 (encodeOsc v k) (oscAdmitted s.cfg v k) true fun s =>
    if k = .noise then s
    else if fNotFinite s.regs.a then s.raise .float (uopInfo 0x25 (encodeOsc v k))
    else if k = .sub then s.oscSetInc v k (incOfHalfFloat s.regs.a s.cfg.sr)
    else s.oscSetInc v k (incOfFloat s.regs.a s.cfg.sr)

/-- 43_sine_lut.md R203. -/
def execSineLut (s : State) : Host.Outcome State Fault Refusal := .next (s.setR (sineInterp s.cfg s.regs.a))

end Sys2Proof.Machine
end

