-- ==== Sys2Proof/Machine/Voices.lean ====
section
/-! DEFINITION. The voice (48_voice.md): note events, one rendered sample, and the UOPs VOICE_*. -/

namespace Sys2Proof.Machine

/-- `voice_note_on` up to its set_target: note, active, phases, frequencies (48_voice.md R306). -/
def Voice.startNote (x : Voice) (c : Cfg) (n : BitVec 7) : Voice :=
  { x with
    midiNote := n
    active := true
    saw := ⟨0, noteInc c n.toNat⟩
    pulse := ⟨0, noteInc c n.toNat⟩
    sub := ⟨0, subInc c n.toNat⟩
    seed := 0 }

/-- `voice_note_on` with no step of another agent inside (48_voice.md R306). -/
def Voice.noteOn (x : Voice) (c : Cfg) (n : BitVec 7) (vel : Word) : Voice :=
  let y := x.startNote c n
  { y with vel := y.vel.setTarget vel, env := y.env.noteOn }

/-- `voice_note_off` (48_voice.md R309). -/
def Voice.noteOff (x : Voice) : Voice := { x with active := false, env := x.env.noteOff }

/-! ### One sample (48_voice.md R310), in the pieces AUDIO's work units share -/

/-- `pw_clamp` (42_oscillators.md R189). -/
def pwClamp (w : Word) : Word := fclamp w 1638 31130

/-- The oscillator part: the pulse width, the four samples, and `mix`. -/
def Voice.oscMix (x : Voice) (m : Mix) : Word × Voice :=
  let x := { x with width := pwClamp m.pulseW.current }
  let saw := x.sawNext
  let pulse := saw.2.pulseNext
  let sub := pulse.2.subNext
  let noise := sub.2.noiseNext
  let sum := fadd (fadd (fadd (fmul saw.1 m.sawLvl.current) (fmul pulse.1 m.pulseLvl.current))
    (fmul sub.1 m.subLvl.current)) (fmul noise.1 m.noiseLvl.current)
  (fshra sum 2, noise.2)

/-- After the tick: the modulated filter on `mix`, times the level. -/
def Voice.filter (x : Voice) (c : Cfg) (p : Sampled) (mix : Word) : Word × Voice :=
  let cut := cutoffMod c p.cutFix x.env.level x.midiNote
  let l := x.lad.step mix (ladderG cut) (ladderRes p.resFix)
  (fmul l.output x.env.level, { x with lad := l })

/-- `voice_render` with no step of another agent inside (48_voice.md R310). -/
def Voice.render (x : Voice) (c : Cfg) (m : Mix) (p : Sampled) : Word × Voice :=
  let a := x.oscMix m
  let b := a.2.envTick.filter c p a.1
  let y := b.2.nextSm .vel
  (fmul b.1 y.vel.current, y)

/-- The word of VOICE_READ (48_voice.md R312). -/
def Voice.word (x : Voice) : Word :=
  BitVec.ofNat 32 (x.env.state.code * 2 ^ 16 + x.active.toNat * 2 ^ 8 + x.midiNote.toNat)

/-! ### The UOPs -/

/-- 48_voice.md R307. -/
def execVoiceNoteOn (v : Nat) (s : State) : Host.Outcome State Fault Refusal :=
  s.uop 0x70 v (voiceAdmitted s.cfg v) true fun s =>
    s.setVoice v ((s.voice v).noteOn s.cfg (noteOf s.regs.a) s.regs.b)

/-- 48_voice.md R309. -/
def execVoiceNoteOff (v : Nat) (s : State) : Host.Outcome State Fault Refusal :=
  s.uop 0x71 v (voiceAdmitted s.cfg v) true fun s => s.setVoice v (s.voice v).noteOff

/-- 48_voice.md R311. -/
def execVoiceRender (v : Nat) (s : State) : Host.Outcome State Fault Refusal :=
  s.uop 0x72 v (voiceAdmitted s.cfg v) true fun s => s.emit v ((s.voice v).render s.cfg s.mix s.sent)

/-- 48_voice.md R312. -/
def execVoiceRead (v : Nat) (s : State) : Host.Outcome State Fault Refusal :=
  s.uop 0x73 v (voiceAdmitted s.cfg v) true fun s => s.setR (s.voice v).word

end Sys2Proof.Machine
end

