-- ==== Sys2Proof/Machine/Polyphony.lean ====
section
/-! DEFINITION. The voice manager (49_polyphony.md R332 to R336) and the event packets (R324 to R330) as AUDIO applies
them in the DRAIN phase. -/

namespace Sys2Proof.Machine

/-! ### Allocation (49_polyphony.md R332) -/

/-- The first index from `i` on whose voice has the property. -/
def firstVoice (p : Voice → Bool) : List Voice → Nat → Option Nat
  | [], _ => none
  | x :: xs, i => if p x then some i else firstVoice p xs (i + 1)

/-- The index from `i` on with the lowest `s32(current_level)` among the voices with the property, ties to the lowest
index; `best` is the choice among the voices before `i`. -/
def quietestVoice (p : Voice → Bool) : List Voice → Nat → Option (Nat × Int) → Option Nat
  | [], _, best => best.map Prod.fst
  | x :: xs, i, best =>
    if p x then
      match best with
      | none => quietestVoice p xs (i + 1) (some (i, s32 x.env.level))
      | some (j, l) =>
        if s32 x.env.level < l then quietestVoice p xs (i + 1) (some (i, s32 x.env.level))
        else quietestVoice p xs (i + 1) (some (j, l))
    else quietestVoice p xs (i + 1) best

/-- Step 1's property: the voice holds the note and is active or releasing. -/
def Voice.holds (x : Voice) (n : BitVec 7) : Bool := x.midiNote == n && (x.active || x.env.state == .release)

/-- `vm_select(note)`: the voice and the step, 1 to 5, that chose it (49_polyphony.md R332). -/
def selectVoice (vs : List Voice) (n : BitVec 7) : Nat × Nat :=
  match firstVoice (fun x => x.holds n) vs 0 with
  | some v => (v, 1)
  | none =>
    match firstVoice (fun x => x.env.state == .idle) vs 0 with
    | some v => (v, 2)
    | none =>
      match firstVoice (fun x => x.env.state == .release) vs 0 with
      | some v => (v, 3)
      | none =>
        match quietestVoice (fun x => x.env.state == .sustain) vs 0 none with
        | some v => (v, 4)
        | none =>
          match quietestVoice (fun _ => true) vs 0 none with
          | some v => (v, 5)
          | none => (0, 5)

/-! ### Note events -/

/-- `vm_note_on(note, vel)` up to the velocity's set_target; W1, W2 and `env_note_on` are AUDIO's next units
(49_polyphony.md R333, 48_voice.md R306, 20_memory.md R84; log 12). -/
def State.vmNoteOn (s : State) (n : BitVec 7) (vel : Word) : State :=
  let v := (selectVoice s.voices n).1
  let t := s.setVoice v ((s.voice v).startNote s.cfg n)
  { t with
    lastStolen := if 3 ≤ (selectVoice s.voices n).2 then BitVec.ofNat 3 v else s.lastStolen }.doFirst
    [.w1 (.voice v .vel) vel, .w2 (.voice v .vel), .envOn v]

/-- `vm_note_off(note)` (49_polyphony.md R334). -/
def State.vmNoteOff (s : State) (n : BitVec 7) : State :=
  match firstVoice (fun x => x.active && x.midiNote == n) s.voices 0 with
  | some v => s.setVoice v (s.voice v).noteOff
  | none => s

/-- `vm_all_off()` (49_polyphony.md R335). -/
def State.vmAllOff (s : State) : State :=
  { s with voices := s.voices.map fun x => if x.active then x.noteOff else x }

/-! ### The UOP and the packets -/

/-- 49_polyphony.md R336. -/
def execVmSelect (s : State) : Host.Outcome State Fault Refusal :=
  s.uop 0x78 0 true true fun s =>
    let r := selectVoice s.voices (noteOf s.regs.a)
    s.setR (BitVec.ofNat 32 (r.2 * 2 ^ 16 + (if 3 ≤ r.2 then 2 ^ 8 else 0) + r.1 % 8))

/-- 49_polyphony.md R325. -/
def execEvtNoteOn (d1 d2 _rsv : Byte) (s : State) : Host.Outcome State Fault Refusal :=
  .next (s.vmNoteOn (noteOfByte d1) (velMap d2))

/-- 49_polyphony.md R326. -/
def execEvtNoteOnV0 (d1 _rsv : Byte) (s : State) : Host.Outcome State Fault Refusal := .next (s.vmNoteOff (noteOfByte d1))

/-- 49_polyphony.md R327. -/
def execEvtNoteOff (d1 _d2 _rsv : Byte) (s : State) : Host.Outcome State Fault Refusal :=
  .next (s.vmNoteOff (noteOfByte d1))

/-- 49_polyphony.md R328. -/
def execEvtAllNotesOff (_d2 _rsv : Byte) (s : State) : Host.Outcome State Fault Refusal := .next s.vmAllOff

/-- 49_polyphony.md R329: the packet is dropped. -/
def execEvtCcIgnored (_d1 _d2 _rsv : Byte) (s : State) : Host.Outcome State Fault Refusal := .next s

/-- 49_polyphony.md R330: the packet is dropped. -/
def execEvtOtherIgnored (_cmd _d1 _d2 _rsv : Byte) (s : State) : Host.Outcome State Fault Refusal := .next s

end Sys2Proof.Machine
end

