-- ==== Sys2Proof/Machine/Audio.lean ====
section
/-! DEFINITION. AUDIO's work: the poll (49_polyphony.md R322), the units of SAMPLE, FRAMES and GAIN (R337 to R339) and the
fill sequencer (R340). AUDIO never raises a fault (60_exceptions.md R368). -/

namespace Sys2Proof.Machine

/-! ### Poll (49_polyphony.md R322) -/

/-- The oldest packet and the state without it; from now on every load sees what was stored before its push
(20_memory.md R82). -/
def State.poll (s : State) : Option (Word × State) :=
  if s.fifo.count = 0 then none
  else
    let x := s.fifo.slots.getD s.fifo.head ⟨0, []⟩
    some (x.word,
      { s with
        fifo := { s.fifo with head := (s.fifo.head + 1) % s.cfg.fifoDepth, count := s.fifo.count - 1 }
        cells := forgetAll s.cells x.seen })

/-! ### SAMPLE (49_polyphony.md R337) -/

/-- `LS[i]`; 9 is `CUT_FIX` and 10 is `RES_FIX`. -/
def Sampled.get (p : Sampled) (i : Nat) : Word :=
  match i with
  | 0 => p.attack
  | 1 => p.decay
  | 2 => p.sustain
  | 3 => p.release
  | 4 => p.saw
  | 5 => p.pulse
  | 6 => p.sub
  | 7 => p.noise
  | 8 => p.width
  | 9 => p.cutFix
  | 10 => p.resFix
  | _ => p.master

def Sampled.set (p : Sampled) (i : Nat) (x : Word) : Sampled :=
  match i with
  | 0 => { p with attack := x }
  | 1 => { p with decay := x }
  | 2 => { p with sustain := x }
  | 3 => { p with release := x }
  | 4 => { p with saw := x }
  | 5 => { p with pulse := x }
  | 6 => { p with sub := x }
  | 7 => { p with noise := x }
  | 8 => { p with width := x }
  | 9 => { p with cutFix := x }
  | 10 => { p with resFix := x }
  | _ => { p with master := x }

/-- The conversion of cell `i`: sample counts for the three times, Q16.15 for the rest (45_parameters.md R250). -/
def sampleValue (c : Cfg) (i : Nat) (w : Word) : Word :=
  match i with
  | 0 | 1 | 3 => toSamples w c.sr
  | _ => ffromfloat w

/-- The smoothers cell `i` feeds (10_state.md R32); cutoff and resonance feed none. -/
def sampleTargets (c : Cfg) (i : Nat) : List SmId :=
  match i with
  | 0 => (List.range c.nvoices).map fun v => .voice v .att
  | 1 => (List.range c.nvoices).map fun v => .voice v .dec
  | 2 => (List.range c.nvoices).map fun v => .voice v .sus
  | 3 => (List.range c.nvoices).map fun v => .voice v .rel
  | 4 => [.global .sawLvl]
  | 5 => [.global .pulseLvl]
  | 6 => [.global .subLvl]
  | 7 => [.global .noiseLvl]
  | 8 => [.global .pulseW]
  | 9 | 10 => []
  | _ => [.global .masterVol]

/-- A set_target by AUDIO is two units (44_smoother.md R221). -/
def setTargetOps (x : Word) (ids : List SmId) : List AudioOp := ids.flatMap fun id => [.w1 id x, .w2 id]

/-- The relaxed load of cell `i`: which visible store it returns is a draw (20_memory.md R81; log 5). -/
def State.loadCell (s : State) (i : Nat) : State :=
  let c := s.cell i
  let k := if c.older = [] then 0 else s.draw % (c.older.length + 1)
  let t := if c.older = [] then s else s.drawn
  { t with
    cells := t.cells.set i (c.load k).2
    work := { t.work with latch := t.work.latch ++ [(c.load k).1] } }

/-- One line of `sample_params`: a target is sent only where the converted value differs from the last one sent. -/
def State.convertCell (s : State) (i : Nat) : State :=
  let t := sampleValue s.cfg i (s.work.latch.getD i 0)
  if t = s.sent.get i then s
  else { s with sent := s.sent.set i t }.doFirst (setTargetOps t (sampleTargets s.cfg i))

/-- The SAMPLE phase: the twelve loads in ascending order, then the conversions in the order of `sample_params`. -/
def sampleOps : List AudioOp :=
  [.load 0, .load 1, .load 2, .load 3, .load 4, .load 5, .load 6, .load 7, .load 8, .load 9, .load 10, .load 11] ++
  [.conv 0, .conv 1, .conv 3, .conv 2, .conv 4, .conv 5, .conv 6, .conv 7, .conv 8, .conv 11, .conv 9, .conv 10] ++
  [.enter .frames]

/-! ### FRAMES and GAIN (49_polyphony.md R338, R339) -/

/-- Frame `f` of R338. -/
def frameOps (c : Cfg) (f : Nat) : List AudioOp :=
  [.e1 (.global .sawLvl), .e1 (.global .pulseLvl), .e1 (.global .subLvl), .e1 (.global .noiseLvl), .e1 (.global .pulseW)] ++
  [.mixStart] ++ (List.range c.nvoices).map .voice ++ [.mix, .mixStore (2 * f), .mixStore (2 * f + 1), .frameNext]

/-- Frame `f` of R339. -/
def gainOps (f : Nat) : List AudioOp :=
  [.e1 (.global .masterVol), .gainLoad (2 * f), .gainStore (2 * f), .gainLoad (2 * f + 1), .gainStore (2 * f + 1), .frameNext]

/-- The units of `voice_render(v)` after its oscillator part (48_voice.md R310, 46_envelope.md R266). -/
def renderOps (v : Nat) : List AudioOp :=
  [.e1 (.voice v .sus), .envSus v, .e1 (.voice v .att), .envTime v .attack, .e1 (.voice v .dec), .envTime v .decay,
    .e1 (.voice v .rel), .envTime v .release, .envFsm v, .ladder v, .e1 (.voice v .vel), .out v]

def State.setTmp (s : State) (x : Word) : State := { s with work := { s.work with tmp := x } }

/-- `fclamp(wrap32(s32(acc) >>a MIX_SHIFT), FS_MIN, FS_MAX)` (49_polyphony.md R338, 00_scope.md R14). -/
def mixScale (c : Cfg) (acc : Word) : Word := fclamp (fshra acc c.mixShift) (wrap32 (-32768)) 32767

/-- Voice `v`'s unit: nothing while it is Idle, else the oscillator part and then the rest of the render. -/
def State.startVoice (s : State) (v : Nat) : State :=
  if (s.voice v).env.state = .idle then s
  else
    let r := (s.voice v).oscMix s.mix
    ((s.setVoice v r.2).setTmp r.1).doFirst (renderOps v)

/-! ### The units -/

/-- One unit of work, already taken off the list. -/
def State.runOp (s : State) (op : AudioOp) : State :=
  match op with
  | .clear i =>
    let t := s.storeOut s.seq.buf i 0
    if i + 1 < s.cfg.bufWords then t.doFirst [.clear (i + 1)] else t.doFirst [.enter .drain]
  | .w1 id x => s.setSm id ((s.sm id).storePending x)
  | .w2 id => s.setSm id (s.sm id).storeFlag
  | .envOn v => s.setVoice v { s.voice v with env := (s.voice v).env.noteOn }
  | .load i => s.loadCell i
  | .conv i => s.convertCell i
  | .enter p => { s with seq := { s.seq with phase := p } }
  | .e1 id => if (s.sm id).hasNew then s.doFirst [.e2 id] else s.setSm id (s.sm id).advance
  | .e2 id => s.doFirst [.e3 id (s.sm id).pending]
  | .e3 id t => s.setSm id ((s.sm id).take t).advance
  | .mixStart => { s with work := { s.work with acc := 0 } }
  | .voice v => s.startVoice v
  | .envSus v => s.setVoice v (s.voice v).latchSustain
  | .envTime v f => s.setVoice v ((s.voice v).latchTime f)
  | .envFsm v => s.setVoice v (s.voice v).tickState
  | .ladder v =>
    let r := (s.voice v).filter s.cfg s.sent s.work.tmp
    (s.setVoice v r.2).setTmp r.1
  | .out v => { s with work := { s.work with acc := fadd s.work.acc (fmul s.work.tmp (s.voice v).vel.current) } }
  | .mix => s.setTmp (mixScale s.cfg s.work.acc)
  | .mixStore i => s.storeOut s.seq.buf i s.work.tmp
  | .gainLoad i => s.setTmp (s.outWord s.seq.buf i)
  | .gainStore i => s.storeOut s.seq.buf i (fmul s.work.tmp s.mix.masterVol.current)
  | .frameNext => { s with seq := { s.seq with frame := s.seq.frame + 1 } }

/-- The fill is done (49_polyphony.md R340). -/
def State.finishFill (s : State) : State :=
  { s with
    seq := { s.seq with lastBuf := s.seq.buf, busy := false, phase := .clear, frame := 0 }
    work := { s.work with past := [] } }

/-- The next phase's or frame's units, when no unit is left (49_polyphony.md R340). DRAIN is not here: its poll is a step of
its own, and this is its end, after a poll that returned None. -/
def State.nextUnits (s : State) : State :=
  match s.seq.phase with
  | .clear => s.doFirst [.clear 0]
  | .drain => { s with seq := { s.seq with phase := .sample }, work := { s.work with latch := [] } }
  | .sample => s.doFirst sampleOps
  | .frames =>
    if s.seq.frame < s.cfg.frames then s.doFirst (frameOps s.cfg s.seq.frame)
    else { s with seq := { s.seq with phase := .gain, frame := 0 } }
  | .gain => if s.seq.frame < s.cfg.frames then s.doFirst (gainOps s.seq.frame) else s.finishFill

/-- One step of AUDIO's own work while it is busy and the step is no poll. -/
def State.audioUnit (s : State) : State :=
  match s.work.todo with
  | op :: ops => ({ s with work := { s.work with todo := ops } }).runOp op
  | [] => s.nextUnits

end Sys2Proof.Machine
end

