-- ==== Sys2Proof/Machine/Arithmetic.lean ====
section
/-! DEFINITION. The arithmetic UOPs (41_fixpoint.md R141 to R153). Each is admitted with UNIT = 0 only, which the decoder
has checked, and may be issued during a fill. -/

namespace Sys2Proof.Machine

/-- 41_fixpoint.md R153. -/
def execNop (s : State) : Host.Outcome State Fault Refusal := .next s

/-- 41_fixpoint.md R142. -/
def execAdd (s : State) : Host.Outcome State Fault Refusal := .next (s.setR (fadd s.regs.a s.regs.b))

/-- 41_fixpoint.md R143. -/
def execSub (s : State) : Host.Outcome State Fault Refusal := .next (s.setR (fsub s.regs.a s.regs.b))

/-- 41_fixpoint.md R144. -/
def execMul (s : State) : Host.Outcome State Fault Refusal := .next (s.setR (fmul s.regs.a s.regs.b))

/-- 41_fixpoint.md R145: a zero divisor records DIVZ and gives no value. -/
def execDiv (s : State) : Host.Outcome State Fault Refusal :=
  .next (if s32 s.regs.b = 0 then s.raise .divz (uopInfo 0x04 0) else s.setR (fdiv s.regs.a s.regs.b))

/-- 41_fixpoint.md R146. -/
def execClamp (s : State) : Host.Outcome State Fault Refusal := .next (s.setR (fclamp s.regs.a s.regs.b s.regs.c))

/-- 41_fixpoint.md R147, with the exact sum of 90_conflicts.md C2 (log 9). -/
def execAddclamp (s : State) : Host.Outcome State Fault Refusal :=
  .next (s.setR (faddclamp s.regs.a s.regs.b s.regs.c s.regs.d))

/-- 41_fixpoint.md R148: the shift is `UOP_B[4:0]`. -/
def execShra (s : State) : Host.Outcome State Fault Refusal := .next (s.setR (fshra s.regs.a (bits s.regs.b 4 0)))

/-- 41_fixpoint.md R149. -/
def execFromint (s : State) : Host.Outcome State Fault Refusal := .next (s.setR (ffromint s.regs.a))

/-- 41_fixpoint.md R150. -/
def execToint (s : State) : Host.Outcome State Fault Refusal := .next (s.setR (ftoint s.regs.a))

/-- 41_fixpoint.md R151: NaN and infinity record FLOAT. -/
def execFromfloat (s : State) : Host.Outcome State Fault Refusal :=
  .next (if fNotFinite s.regs.a then s.raise .float (uopInfo 0x0A 0) else s.setR (ffromfloat s.regs.a))

/-- 41_fixpoint.md R152. -/
def execTofloat (s : State) : Host.Outcome State Fault Refusal := .next (s.setR (ftofloat s.regs.a))

end Sys2Proof.Machine
end

