-- ==== Sys2Proof/Machine/Registers.lean ====
section
/-! DEFINITION. The register writes with side effects: RESET, FILL and EVT_PUSH (30_encoding.md R119). -/

namespace Sys2Proof.Machine

/-- 70_reset_and_hazards.md R391: every state element but the output buffers takes its reset value. The agents' pending
inputs and replies are the model's and stay; no push and no W2 can be pending (R391, R394). -/
def execReset (s : State) : Host.Outcome State Fault Refusal :=
  .next
    { State.powerOn s.cfg with
      mem := s.mem
      port := { s.port with pushWait := none, w2Wait := none } }

/-- 49_polyphony.md R341: a request while busy records UNDERRUN and is dropped. -/
def execFill (b : Bool) (s : State) : Host.Outcome State Fault Refusal :=
  .next
    (if s.seq.busy then s.raise .underrun (BitVec.ofNat 24 b.toNat)
     else
      { s with
        seq := { s.seq with busy := true, buf := b, phase := .clear, frame := 0 }
        work := { s.work with todo := [.clear 0], past := [] } })

/-- The push itself, for a FIFO with a free slot (49_polyphony.md R321). The packet carries how many parameter stores it
comes after (20_memory.md R82). -/
def Fifo.push (f : Fifo) (depth : Nat) (x : Slot) : Fifo :=
  { f with slots := f.slots.set ((f.head + f.count) % depth) x, count := f.count + 1 }

/-- 49_polyphony.md R321: on a full FIFO CONTROL stalls, and its write stays pending until a poll frees a slot. -/
def execEvtPush (w : Word) (s : State) : Host.Outcome State Fault Refusal :=
  .next
    (if s.fifo.count < s.cfg.fifoDepth then
      { s with
        fifo := s.fifo.push s.cfg.fifoDepth ⟨w, s.cells.map Cell.issued⟩
        port := { s.port with pushWait := none } }
     else { s with port := { s.port with pushWait := some w } })

end Sys2Proof.Machine
end

