-- ==== Sys2Proof/Machine/Issue.lean ====
section
/-! DEFINITION. Issuing a UOP: a write to UOP_CMD runs the UOP the word encodes, whole (30_encoding.md R113,
20_memory.md R80). -/

namespace Sys2Proof.Machine

/-- The catch-all row: ILLEGAL, and nothing else (30_encoding.md R113, R117). -/
def execIllegalUop (w : Word) (s : State) : Host.Outcome State Fault Refusal := .next (s.raise .illegal (wordInfo w))

/-- The meaning of a UOP. The commands of the other forms are no UOP, and `decodeUop` never gives one. -/
def runUop (i : Instr) (s : State) : Host.Outcome State Fault Refusal :=
  match i with
  | .nop => execNop s
  | .add => execAdd s
  | .sub => execSub s
  | .mul => execMul s
  | .div => execDiv s
  | .clamp => execClamp s
  | .addclamp => execAddclamp s
  | .shra => execShra s
  | .fromint => execFromint s
  | .toint => execToint s
  | .fromfloat => execFromfloat s
  | .tofloat => execTofloat s
  | .oscReset v k => execOscReset v k s
  | .oscSetinc v k => execOscSetinc v k s
  | .sawNext v => execSawNext v s
  | .pulseNext v => execPulseNext v s
  | .subNext v => execSubNext v s
  | .noiseNext v => execNoiseNext v s
  | .sineNext => execSineNext s
  | .pulseSetw v => execPulseSetw v s
  | .oscRead v k => execOscRead v k s
  | .oscSetfreq v k => execOscSetfreq v k s
  | .sineLut => execSineLut s
  | .smReset id => execSmReset id s
  | .smSetvalue id => execSmSetvalue id s
  | .smSettarget id => execSmSettarget id s
  | .smNext id => execSmNext id s
  | .smRead id => execSmRead id s
  | .paramSet i => execParamSet i s
  | .paramSetn i => execParamSetn i s
  | .paramGet i => execParamGet i s
  | .paramGetn i => execParamGetn i s
  | .envNoteOn v => execEnvNoteOn v s
  | .envNoteOff v => execEnvNoteOff v s
  | .envTick v => execEnvTick v s
  | .envRead v => execEnvRead v s
  | .envLevel v => execEnvLevel v s
  | .ladderStep v => execLadderStep v s
  | .ladderG => execLadderG s
  | .ladderRes => execLadderRes s
  | .cutoffMod => execCutoffMod s
  | .ladderRead v => execLadderRead v s
  | .svfStep low => execSvfStep low s
  | .voiceNoteOn v => execVoiceNoteOn v s
  | .voiceNoteOff v => execVoiceNoteOff v s
  | .voiceRender v => execVoiceRender v s
  | .voiceRead v => execVoiceRead v s
  | .vmSelect => execVmSelect s
  | .illegalUop w => execIllegalUop w s
  | .evtNoteOn _ _ _ => .refused .notAUop
  | .evtNoteOnV0 _ _ => .refused .notAUop
  | .evtNoteOff _ _ _ => .refused .notAUop
  | .evtAllNotesOff _ _ => .refused .notAUop
  | .evtCcIgnored _ _ _ => .refused .notAUop
  | .evtOtherIgnored _ _ _ _ => .refused .notAUop
  | .reset => .refused .notAUop
  | .fill _ => .refused .notAUop
  | .evtPush _ => .refused .notAUop
  | .uopIssue _ => .refused .notAUop

/-- The UOP a word written to UOP_CMD encodes (30_encoding.md R113, 10_state.md R28). -/
def execUopIssue (w : Word) (s : State) : Host.Outcome State Fault Refusal := runUop (decodeUop w) s

end Sys2Proof.Machine
end

