-- ==== Sys2Proof/Machine/Dispatch.lean ====
section
/-! DEFINITION. One arm per command: its meaning. -/

namespace Sys2Proof.Machine

def exec (i : Instr) (s : State) : Host.Outcome State Fault Refusal :=
  match i with
  | .nop => Sys2Proof.Machine.execNop s
  | .add => Sys2Proof.Machine.execAdd s
  | .sub => Sys2Proof.Machine.execSub s
  | .mul => Sys2Proof.Machine.execMul s
  | .div => Sys2Proof.Machine.execDiv s
  | .clamp => Sys2Proof.Machine.execClamp s
  | .addclamp => Sys2Proof.Machine.execAddclamp s
  | .shra => Sys2Proof.Machine.execShra s
  | .fromint => Sys2Proof.Machine.execFromint s
  | .toint => Sys2Proof.Machine.execToint s
  | .fromfloat => Sys2Proof.Machine.execFromfloat s
  | .tofloat => Sys2Proof.Machine.execTofloat s
  | .oscReset v k => Sys2Proof.Machine.execOscReset v k s
  | .oscSetinc v k => Sys2Proof.Machine.execOscSetinc v k s
  | .sawNext v => Sys2Proof.Machine.execSawNext v s
  | .pulseNext v => Sys2Proof.Machine.execPulseNext v s
  | .subNext v => Sys2Proof.Machine.execSubNext v s
  | .noiseNext v => Sys2Proof.Machine.execNoiseNext v s
  | .sineNext => Sys2Proof.Machine.execSineNext s
  | .pulseSetw v => Sys2Proof.Machine.execPulseSetw v s
  | .oscRead v k => Sys2Proof.Machine.execOscRead v k s
  | .oscSetfreq v k => Sys2Proof.Machine.execOscSetfreq v k s
  | .sineLut => Sys2Proof.Machine.execSineLut s
  | .smReset id => Sys2Proof.Machine.execSmReset id s
  | .smSetvalue id => Sys2Proof.Machine.execSmSetvalue id s
  | .smSettarget id => Sys2Proof.Machine.execSmSettarget id s
  | .smNext id => Sys2Proof.Machine.execSmNext id s
  | .smRead id => Sys2Proof.Machine.execSmRead id s
  | .paramSet p => Sys2Proof.Machine.execParamSet p s
  | .paramSetn p => Sys2Proof.Machine.execParamSetn p s
  | .paramGet p => Sys2Proof.Machine.execParamGet p s
  | .paramGetn p => Sys2Proof.Machine.execParamGetn p s
  | .envNoteOn v => Sys2Proof.Machine.execEnvNoteOn v s
  | .envNoteOff v => Sys2Proof.Machine.execEnvNoteOff v s
  | .envTick v => Sys2Proof.Machine.execEnvTick v s
  | .envRead v => Sys2Proof.Machine.execEnvRead v s
  | .envLevel v => Sys2Proof.Machine.execEnvLevel v s
  | .ladderStep v => Sys2Proof.Machine.execLadderStep v s
  | .ladderG => Sys2Proof.Machine.execLadderG s
  | .ladderRes => Sys2Proof.Machine.execLadderRes s
  | .cutoffMod => Sys2Proof.Machine.execCutoffMod s
  | .ladderRead v => Sys2Proof.Machine.execLadderRead v s
  | .svfStep low => Sys2Proof.Machine.execSvfStep low s
  | .voiceNoteOn v => Sys2Proof.Machine.execVoiceNoteOn v s
  | .voiceNoteOff v => Sys2Proof.Machine.execVoiceNoteOff v s
  | .voiceRender v => Sys2Proof.Machine.execVoiceRender v s
  | .voiceRead v => Sys2Proof.Machine.execVoiceRead v s
  | .vmSelect => Sys2Proof.Machine.execVmSelect s
  | .illegalUop w => Sys2Proof.Machine.execIllegalUop w s
  | .evtNoteOn d1 d2 rsv => Sys2Proof.Machine.execEvtNoteOn d1 d2 rsv s
  | .evtNoteOnV0 d1 rsv => Sys2Proof.Machine.execEvtNoteOnV0 d1 rsv s
  | .evtNoteOff d1 d2 rsv => Sys2Proof.Machine.execEvtNoteOff d1 d2 rsv s
  | .evtAllNotesOff d2 rsv => Sys2Proof.Machine.execEvtAllNotesOff d2 rsv s
  | .evtCcIgnored d1 d2 rsv => Sys2Proof.Machine.execEvtCcIgnored d1 d2 rsv s
  | .evtOtherIgnored cmd d1 d2 rsv => Sys2Proof.Machine.execEvtOtherIgnored cmd d1 d2 rsv s
  | .reset => Sys2Proof.Machine.execReset s
  | .fill b => Sys2Proof.Machine.execFill b s
  | .evtPush w => Sys2Proof.Machine.execEvtPush w s
  | .uopIssue w => Sys2Proof.Machine.execUopIssue w s

end Sys2Proof.Machine
end

