-- ==== Sys2Proof/Machine/PortMap.lean ====
section
/-! DEFINITION. The control port: its map (20_memory.md R71), who may access what (R72), reads (R78) and writes, and one
request of an agent (30_encoding.md R119). -/

namespace Sys2Proof.Machine

/-! ### The map -/

/-- What lies at an offset (20_memory.md R71). -/
inductive Region where
  | ctrl
  | status
  | evtPush
  | fill
  | uopA
  | uopB
  | uopC
  | uopD
  | uopCmd
  | uopR
  | config
  | faultInfo
  | outbuf (b : Bool) (i : Nat)
  | sineRom (i : Nat)
  | noteInc (n : Nat)
  | subInc (n : Nat)
  | unmapped
  deriving DecidableEq, Repr

/-- The registers, at the offsets below 0x030. -/
def regRegion (off : Nat) : Region :=
  match off with
  | 0x000 => .ctrl
  | 0x004 => .status
  | 0x008 => .evtPush
  | 0x00C => .fill
  | 0x010 => .uopA
  | 0x014 => .uopB
  | 0x018 => .uopC
  | 0x01C => .uopD
  | 0x020 => .uopCmd
  | 0x024 => .uopR
  | 0x028 => .config
  | 0x02C => .faultInfo
  | _ => .unmapped

/-- 20_memory.md R71, for an offset that is a multiple of 4. With FRAMES = 64 the upper half of each buffer's window is
unmapped. -/
def regionOf (c : Cfg) (off : Nat) : Region :=
  if off < 0x1000 then regRegion off
  else if off < 0x1400 then
    if (off - 0x1000) / 4 < c.bufWords then .outbuf false ((off - 0x1000) / 4) else .unmapped
  else if off < 0x1800 then
    if (off - 0x1400) / 4 < c.bufWords then .outbuf true ((off - 0x1400) / 4) else .unmapped
  else if off < 0x2000 then .unmapped
  else if off < 0x3000 then .sineRom ((off - 0x2000) / 4)
  else if off < 0x3200 then .noteInc ((off - 0x3000) / 4)
  else if off < 0x3400 then .subInc ((off - 0x3200) / 4)
  else .unmapped

/-- The columns of 20_memory.md R71 for writes. AUDIO issues no port access. -/
def mayWrite (a : Agent) (r : Region) : Bool :=
  match a with
  | .control =>
    match r with
    | .ctrl | .evtPush | .fill | .uopA | .uopB | .uopC | .uopD | .uopCmd | .outbuf _ _ => true
    | .status | .uopR | .config | .faultInfo | .sineRom _ | .noteInc _ | .subInc _ | .unmapped => false
  | .driver =>
    match r with
    | .fill => true
    | .ctrl | .status | .evtPush | .uopA | .uopB | .uopC | .uopD | .uopCmd | .uopR | .config | .faultInfo => false
    | .outbuf _ _ | .sineRom _ | .noteInc _ | .subInc _ | .unmapped => false
  | .audio => false

/-- The columns for reads. A write-only register is readable by an agent that may write it (20_memory.md R72). -/
def mayRead (a : Agent) (r : Region) : Bool :=
  match a with
  | .control =>
    match r with
    | .unmapped => false
    | .ctrl | .status | .evtPush | .fill | .uopA | .uopB | .uopC | .uopD | .uopCmd | .uopR | .config | .faultInfo => true
    | .outbuf _ _ | .sineRom _ | .noteInc _ | .subInc _ => true
  | .driver =>
    match r with
    | .status | .fill | .config | .faultInfo | .outbuf _ _ | .sineRom _ | .noteInc _ | .subInc _ => true
    | .ctrl | .evtPush | .uopA | .uopB | .uopC | .uopD | .uopCmd | .uopR | .unmapped => false
  | .audio => false

/-! ### Reads -/

/-- The word at a readable region (20_memory.md R78: no read has a side effect). -/
def State.portRead (s : State) (r : Region) : Word :=
  match r with
  | .status => s.status
  | .uopA => s.regs.a
  | .uopB => s.regs.b
  | .uopC => s.regs.c
  | .uopD => s.regs.d
  | .uopR => s.regs.r
  | .config => configWord s.cfg
  | .faultInfo => s.flt.info
  | .outbuf b i => s.readOut b i
  | .sineRom i => sineRom s.cfg i
  | .noteInc n => noteInc s.cfg n
  | .subInc n => subInc s.cfg n
  | .ctrl | .evtPush | .fill | .uopCmd | .unmapped => 0

/-- What the agent's last access delivered (log 19). -/
def State.setReply (s : State) (a : Agent) (x : Option Word) : State :=
  match a with
  | .control => { s with port := { s.port with controlReply := x } }
  | .driver => { s with port := { s.port with driverReply := x } }
  | .audio => s

/-! ### Writes -/

/-- A write has been issued: it delivers nothing, and reads after it draw anew (20_memory.md R78; log 6). -/
def State.written (s : State) (a : Agent) : State := (s.setReply a none).drawn

/-- `info` of a fault of an access: its byte offset (60_exceptions.md R362). -/
def offsetInfo (off : Nat) : BitVec 24 := BitVec.ofNat 24 off

/-- A write with a side effect: the command the word is in that port's form (30_encoding.md R119, R120). A CTRL write of 0
does nothing; reserved bits of CTRL and FILL are ILLEGAL (10_state.md R23, R26). -/
def State.portCommand (s : State) (f : Form) (off : Nat) (w : Word) : Host.Outcome State Fault Refusal :=
  match decode f w with
  | .ok i => exec i s
  | .error .ctrlZero => .next s
  | .error .ctrlReserved => .next (s.raise .illegal (offsetInfo off))
  | .error .fillReserved => .next (s.raise .illegal (offsetInfo off))

/-- A write to a region the agent may write. -/
def State.portWrite (s : State) (r : Region) (off : Nat) (w : Word) : Host.Outcome State Fault Refusal :=
  match r with
  | .ctrl => s.portCommand .ctrl off w
  | .evtPush => s.portCommand .push off w
  | .fill => s.portCommand .fill off w
  | .uopCmd => s.portCommand .cmd off w
  | .uopA => .next { s with regs := { s.regs with a := w } }
  | .uopB => .next { s with regs := { s.regs with b := w } }
  | .uopC => .next { s with regs := { s.regs with c := w } }
  | .uopD => .next { s with regs := { s.regs with d := w } }
  | .outbuf b i => .next (s.storeOut b i w)
  | .status | .uopR | .config | .faultInfo | .sineRom _ | .noteInc _ | .subInc _ | .unmapped =>
    .next (s.raise .illegal (offsetInfo off))

/-! ### One request -/

/-- An access the map does not grant: ILLEGAL with its offset, no value delivered, no other effect (20_memory.md R72). -/
def State.deny (s : State) (a : Agent) (dir : Dir) (info : BitVec 24) : State :=
  match dir with
  | .read => (s.raise .illegal info).setReply a none
  | .write => (s.raise .illegal info).written a

/-- One aligned 32-bit request at a byte offset. The map and permission check comes before anything else
(60_exceptions.md R364); a read that faults delivers no value (20_memory.md R72). -/
def State.request (s : State) (a : Agent) (dir : Dir) (off : Nat) (data : Word) : Host.Outcome State Fault Refusal :=
  match dir with
  | .read =>
    if mayRead a (regionOf s.cfg off) then
      .next (s.setReply a (some (s.portRead (regionOf s.cfg off))))
    else .next (s.deny a .read (offsetInfo off))
  | .write =>
    if mayWrite a (regionOf s.cfg off) then (s.written a).portWrite (regionOf s.cfg off) off data
    else .next (s.deny a .write (offsetInfo off))

/-- One access of an agent. Widths and alignments other than one aligned word have no meaning (20_memory.md R75). The offset
of an address below `BASE` is negative, and no such offset is mapped (R72; log 16). -/
def State.access (s : State) (a : Agent) (x : Access) : Host.Outcome State Fault Refusal :=
  if x.width ≠ 4 ∨ x.addr % 4 ≠ 0 then .refused .accessShape
  else if x.addr < s.cfg.base then .next (s.deny a x.dir (BitVec.ofInt 24 (x.addr - s.cfg.base)))
  else s.request a x.dir (x.addr - s.cfg.base) x.data

end Sys2Proof.Machine
end

