-- ==== Sys2Proof/Machine/Agents.lean ====
section
/-! DEFINITION. What each agent does when it moves (00_scope.md R15), and which one moves (20_memory.md R80). -/

namespace Sys2Proof.Machine

/-- CONTROL: the W2 of an SM_SETTARGET first (44_smoother.md R222), then a push that waits (49_polyphony.md R321), then its
next access. With nothing to do it stays. -/
def State.controlStep (s : State) : Host.Outcome State Fault Refusal :=
  match s.port.w2Wait with
  | some id => .next (s.finishSettarget id)
  | none =>
    match s.port.pushWait with
    | some w => exec (.evtPush w) s
    | none =>
      match s.port.control with
      | [] => .next s
      | x :: xs => { s with port := { s.port with control := xs } }.access .control x

/-- DRIVER: its next access. -/
def State.driverStep (s : State) : Host.Outcome State Fault Refusal :=
  match s.port.driver with
  | [] => .next s
  | x :: xs => { s with port := { s.port with driver := xs } }.access .driver x

/-- AUDIO's next step is a poll: in DRAIN, with the last packet's work done (49_polyphony.md R324, R340). -/
def State.polls (s : State) : Bool := s.seq.busy && s.seq.phase == .drain && s.work.todo.isEmpty

/-- AUDIO: nothing while idle (60_exceptions.md R375); in DRAIN a poll, whose packet is applied at once
(49_polyphony.md R324); else its next unit of work. Port reads after a step of a fill draw anew (20_memory.md R78; log 6). -/
def State.audioStep (s : State) : Host.Outcome State Fault Refusal :=
  if s.polls then
    match s.drawn.poll with
    | some (w, t) => exec (decodeEvt w) t
    | none => .next s.drawn.nextUnits
  else .next (if s.seq.busy then s.drawn.audioUnit else s)

def State.agentStep (s : State) (a : Agent) : Host.Outcome State Fault Refusal :=
  match a with
  | .control => s.controlStep
  | .driver => s.driverStep
  | .audio => s.audioStep

/-- The agent a draw names (log 24). -/
def agentOf (n : Nat) : Agent :=
  match n % 3 with
  | 0 => .control
  | 1 => .driver
  | _ => .audio

/-- The agent that moves: the head of the schedule; any agent where the schedule is empty (20_memory.md R80; log 24). -/
def State.nextAgent (s : State) : Agent × State :=
  match s.port.sched with
  | a :: as => (a, { s with port := { s.port with sched := as } })
  | [] => (agentOf (Config.freeAgent s.port.turns), { s with port := { s.port with turns := s.port.turns + 1 } })

/-- CONTROL's next step is the write of `w` at an offset. -/
def State.issueFirst (s : State) (off : Nat) (w : Word) : State :=
  { s with port := { s.port with
      pushWait := none
      w2Wait := none
      control := ⟨.write, s.cfg.base + off, 4, w⟩ :: s.port.control
      sched := .control :: s.port.sched } }

/-- AUDIO's next step polls the packet `w`: a fill is in its DRAIN phase, and `w` is the oldest packet. -/
def State.pollFirst (s : State) (w : Word) : State :=
  { s with
    seq := { s.seq with busy := true, phase := .drain }
    work := { s.work with todo := [] }
    fifo := { s.fifo with slots := s.fifo.slots.set s.fifo.head ⟨w, []⟩, count := max 1 s.fifo.count }
    port := { s.port with sched := .audio :: s.port.sched } }

/-- The state in which the next step runs the word `w` of a form: written by CONTROL to the form's port, or polled. -/
def State.present (s : State) (f : Form) (w : Word) : State :=
  match f with
  | .uop | .cmd => s.issueFirst 0x020 w
  | .evt => s.pollFirst w
  | .ctrl => s.issueFirst 0x000 w
  | .fill => s.issueFirst 0x00C w
  | .push => s.issueFirst 0x008 w

end Sys2Proof.Machine
end

