-- ==== Sys2Proof/Machine/Step.lean ====
section
/-! DEFINITION. One step of the block: one agent moves (00_scope.md R15, 20_memory.md R80). -/

namespace Sys2Proof.Machine

/-- One step. A configuration outside its legal values is refused as a whole (00_scope.md R7). -/
def step (s : State) : Host.Outcome State Fault Refusal :=
  if s.cfg.legal then s.nextAgent.2.agentStep s.nextAgent.1 else .refused .illegalConfig

/-- The block fetches nothing (20_memory.md R88): `w` is presented where an agent takes its next command (log 2). The form
is the one `decodeTableWord` reads the word in (log 1). -/
def State.withFetchWord (s : State) (_nbits w : Nat) : State :=
  s.present (tableForm (BitVec.ofNat 32 w)) (BitVec.ofNat 32 w)

end Sys2Proof.Machine
end

