-- ==== Sys2Proof/WellFormed.lean ====
section
/-! DEFINITION. Which terms of `Instr` stand for a command word, and which units a configuration admits. -/

namespace Sys2Proof

/-- The operand of an OSC-class command fits `UNIT = {v[4:0], k[2:0]}`, SINE with v = 0 only (30_encoding.md R115). -/
def oscFits (v : Nat) (k : Kind) : Bool := Nat.blt v 32 && (k != .sine || v == 0)

/-- A smoother id fits the 8-bit UNIT (10_state.md R32). -/
def SmId.fits : SmId → Bool
  | .global _ => true
  | .voice v _ => Nat.blt v 31

/-- A voice index fits the 8-bit UNIT (30_encoding.md R115). -/
def voiceFits (v : Nat) : Bool := Nat.blt v 256

/-- The term is the reading of some word: its fields fit, and a catch-all row takes only what no earlier row takes
(30_encoding.md R111, R113, R115). -/
def Instr.wellFormed (i : Instr) : Bool :=
  match i with
  | .oscReset v k | .oscSetinc v k | .oscRead v k | .oscSetfreq v k => oscFits v k
  | .sawNext v | .pulseNext v | .subNext v | .noiseNext v | .pulseSetw v => Nat.blt v 32
  | .smReset id | .smSetvalue id | .smSettarget id | .smNext id | .smRead id => id.fits
  | .envNoteOn v | .envNoteOff v | .envTick v | .envRead v | .envLevel v => voiceFits v
  | .ladderStep v | .ladderRead v => voiceFits v
  | .voiceNoteOn v | .voiceNoteOff v | .voiceRender v | .voiceRead v => voiceFits v
  | .illegalUop w => decodeUop w == .illegalUop w
  | .evtNoteOn _ d2 _ => d2 != 0
  | .evtCcIgnored d1 _ _ => d1 != 123
  | .evtOtherIgnored cmd _ _ _ => cmd != 0x80 && cmd != 0x90 && cmd != 0xB0
  | .nop | .add | .sub | .mul | .div | .clamp | .addclamp | .shra | .fromint | .toint | .fromfloat | .tofloat => true
  | .sineNext | .sineLut | .ladderG | .ladderRes | .cutoffMod | .vmSelect => true
  | .paramSet _ | .paramSetn _ | .paramGet _ | .paramGetn _ => true
  | .svfStep _ => true
  | .evtNoteOnV0 _ _ | .evtNoteOff _ _ _ | .evtAllNotesOff _ _ => true
  | .reset | .fill _ | .evtPush _ | .uopIssue _ => true

end Sys2Proof
end

