-- ==== Sys2Proof/Safety.lean ====
section
/-! DEFINITION. What a claim about the block is stated in: the opcode map's "Excl." column, which units a configuration
admits, the invariants of 10_state.md R42 and of the model's own fields, and the views of the state the claims compare. -/

namespace Sys2Proof.Machine

/-! ### Commands -/

/-- The column "Excl." of 30_encoding.md R116; commands of the other forms are not in that table. -/
def audioExclusive (i : Instr) : Bool :=
  match i with
  | .oscReset _ _ | .oscSetinc _ _ | .sawNext _ | .pulseNext _ | .subNext _ | .noiseNext _ | .sineNext => true
  | .pulseSetw _ | .oscRead _ _ | .oscSetfreq _ _ => true
  | .smReset _ | .smSetvalue _ | .smNext _ | .smRead _ => true
  | .envNoteOn _ | .envNoteOff _ | .envTick _ | .envRead _ | .envLevel _ => true
  | .ladderStep _ | .ladderRead _ => true
  | .voiceNoteOn _ | .voiceNoteOff _ | .voiceRender _ | .voiceRead _ | .vmSelect => true
  | .nop | .add | .sub | .mul | .div | .clamp | .addclamp | .shra | .fromint | .toint | .fromfloat | .tofloat => false
  | .sineLut | .smSettarget _ | .paramSet _ | .paramSetn _ | .paramGet _ | .paramGetn _ => false
  | .ladderG | .ladderRes | .cutoffMod | .svfStep _ | .illegalUop _ => false
  | .evtNoteOn _ _ _ | .evtNoteOnV0 _ _ | .evtNoteOff _ _ _ | .evtAllNotesOff _ _ => false
  | .evtCcIgnored _ _ _ | .evtOtherIgnored _ _ _ _ => false
  | .reset | .fill _ | .evtPush _ | .uopIssue _ => false

/-- The unit a well-formed UOP names exists in the configuration (30_encoding.md R115). -/
def unitAdmitted (c : Cfg) (i : Instr) : Bool :=
  match i with
  | .oscReset v k | .oscSetinc v k | .oscRead v k | .oscSetfreq v k => k == .sine || Nat.blt v c.nvoices
  | .sawNext v | .pulseNext v | .subNext v | .noiseNext v | .pulseSetw v => Nat.blt v c.nvoices
  | .smReset id | .smSetvalue id | .smSettarget id | .smNext id | .smRead id =>
    match id with
    | .global _ => true
    | .voice v _ => Nat.blt v c.nvoices
  | .envNoteOn v | .envNoteOff v | .envTick v | .envRead v | .envLevel v => Nat.blt v c.nvoices
  | .ladderStep v | .ladderRead v => Nat.blt v c.nvoices
  | .voiceNoteOn v | .voiceNoteOff v | .voiceRender v | .voiceRead v => Nat.blt v c.nvoices
  | .nop | .add | .sub | .mul | .div | .clamp | .addclamp | .shra | .fromint | .toint | .fromfloat | .tofloat => true
  | .sineNext | .sineLut | .ladderG | .ladderRes | .cutoffMod | .vmSelect => true
  | .paramSet _ | .paramSetn _ | .paramGet _ | .paramGetn _ => true
  | .svfStep _ | .illegalUop _ => true
  | .evtNoteOn _ _ _ | .evtNoteOnV0 _ _ | .evtNoteOff _ _ _ | .evtAllNotesOff _ _ => true
  | .evtCcIgnored _ _ _ | .evtOtherIgnored _ _ _ _ => true
  | .reset | .fill _ | .evtPush _ | .uopIssue _ => true

/-- `word[31:8]` of a command's word (60_exceptions.md R362). -/
def wordTop (w : Word) : BitVec 24 := w.extractLsb' 8 24

/-! ### Invariants -/

/-- The output memory is in its canonical form. -/
def MemoryInv (s : State) : Prop := s.mem.wf = true

/-- A pattern inside its parameter's range, and no NaN (45_parameters.md R241). -/
def InRange (i : Nat) (w : Word) : Prop :=
  fIsNaN w = false ∧ fUnits (paramMeta i).min ≤ fUnits w ∧ fUnits w ≤ fUnits (paramMeta i).max

/-- 10_state.md R42 item 4: every value a load of a cell can return is in range. -/
def CellInv (s : State) : Prop := s.cells.length = 12 ∧ ∀ i, i < 12 → ∀ w ∈ (s.cell i).visible, InRange i w

/-- The FIFO's shape (10_state.md R29, 49_polyphony.md R323 law 3). -/
def FifoInv (s : State) : Prop :=
  s.fifo.slots.length = s.cfg.fifoDepth ∧ s.fifo.head < s.cfg.fifoDepth ∧ s.fifo.count ≤ s.cfg.fifoDepth

/-- 44_smoother.md R218. -/
def Smoother.settled (m : Smoother) : Prop := m.remaining = 0 → m.current = m.target

/-- 10_state.md R42 item 3, for every smoother of the bank. -/
def SmootherInv (s : State) : Prop := (∀ g, (s.mix.get g).settled) ∧ ∀ x ∈ s.voices, ∀ k, (x.getSm k).settled

/-- 10_state.md R42 items 1 and 5, the number of voices, and the range of `last_stolen` (R39). -/
def VoiceInv (s : State) : Prop :=
  s.voices.length = s.cfg.nvoices ∧ s.lastStolen.toNat < s.cfg.nvoices ∧
    ∀ x ∈ s.voices, (x.env.state = .idle → x.env.level = 0) ∧ -lim8 ≤ s32 x.lad.s4 ∧ s32 x.lad.s4 ≤ lim8

/-- The output word a unit of AUDIO's work reads or writes, if it does. -/
def AudioOp.outIndex : AudioOp → Option Nat
  | .clear i | .mixStore i | .gainLoad i | .gainStore i => some i
  | .w1 _ _ | .w2 _ | .envOn _ | .load _ | .conv _ | .enter _ | .e1 _ | .e2 _ | .e3 _ _ => none
  | .mixStart | .voice _ | .envSus _ | .envTime _ _ | .envFsm _ | .ladder _ | .out _ | .mix | .frameNext => none

/-- Frame ends still in the work list. -/
def frameEnds (ops : List AudioOp) : Nat := ops.countP fun op => op == .frameNext

/-- The sequencer (10_state.md R21): AUDIO has work only while busy, its work stays inside the output buffer, and
`fill_frame` stays in 0..FRAMES. -/
def FillInv (s : State) : Prop :=
  (s.seq.busy = false → s.work.todo = [] ∧ s.work.past = []) ∧
    (∀ op ∈ s.work.todo, ∀ i, op.outIndex = some i → i < s.cfg.bufWords) ∧
    s.seq.frame + frameEnds s.work.todo ≤ s.cfg.frames

/-- All of them, over a legal configuration. -/
def Inv (s : State) : Prop :=
  s.cfg.legal = true ∧ MemoryInv s ∧ CellInv s ∧ FifoInv s ∧ SmootherInv s ∧ VoiceInv s ∧ FillInv s

/-! ### Views -/

/-- The packets in the FIFO, oldest first. -/
def State.packets (s : State) : List Word :=
  (List.range s.fifo.count).map fun k => (s.fifo.slots.getD ((s.fifo.head + k) % s.cfg.fifoDepth) ⟨0, []⟩).word

/-- A smoother without its mailbox, which CONTROL may write during a fill (20_memory.md R83). -/
def Smoother.noMailbox (m : Smoother) : Smoother := { m with pending := 0, hasNew := false }

/-- A voice without its mailboxes. -/
def Voice.noMailboxes (x : Voice) : Voice :=
  { x with
    vel := x.vel.noMailbox
    sus := x.sus.noMailbox
    att := x.att.noMailbox
    dec := x.dec.noMailbox
    rel := x.rel.noMailbox }

def Mix.noMailboxes (m : Mix) : Mix :=
  { sawLvl := m.sawLvl.noMailbox
    pulseLvl := m.pulseLvl.noMailbox
    subLvl := m.subLvl.noMailbox
    noiseLvl := m.noiseLvl.noMailbox
    pulseW := m.pulseW.noMailbox
    masterVol := m.masterVol.noMailbox }

/-- The audio-exclusive state (20_memory.md R70 item 2): the sequencer and its work, the sampled parameters, the voices,
the smoothers without their mailboxes, SINE0 and the voice manager's register. -/
structure AudioView where
  seq : Seq
  todo : List AudioOp
  latch : List Word
  acc : Word
  tmp : Word
  sent : Sampled
  mix : Mix
  sine0 : Osc
  voices : List Voice
  lastStolen : BitVec 3
  deriving DecidableEq, Repr

def State.audioView (s : State) : AudioView where
  seq := s.seq
  todo := s.work.todo
  latch := s.work.latch
  acc := s.work.acc
  tmp := s.work.tmp
  sent := s.sent
  mix := s.mix.noMailboxes
  sine0 := s.sine0
  voices := s.voices.map Voice.noMailboxes
  lastStolen := s.lastStolen

/-- The next step issues the access `x` of agent `a`: it is that agent's turn, it owes no W2 and no push, and `x` is the
oldest access it has. -/
def State.issues (s : State) (a : Agent) (x : Access) : Prop :=
  s.nextAgent.1 = a ∧
    ((a = .control ∧ s.port.w2Wait = none ∧ s.port.pushWait = none ∧ ∃ xs, s.port.control = x :: xs) ∨
      (a = .driver ∧ ∃ xs, s.port.driver = x :: xs))

/-- The next step is CONTROL's write of `w` to `OUTBUF[b][i]` (20_memory.md R71). -/
def State.controlStores (s : State) (b : Bool) (i : Nat) (w : Word) : Prop :=
  i < s.cfg.bufWords ∧ s.issues .control ⟨.write, s.cfg.base + outOffset b i, 4, w⟩

/-- The next step is AUDIO's store of `w` to word `i` of the buffer it fills: a unit of CLEAR, FRAMES or GAIN
(49_polyphony.md R338 to R340). -/
def State.audioStores (s : State) (i : Nat) (w : Word) : Prop :=
  s.nextAgent.1 = .audio ∧ s.seq.busy = true ∧ ∃ ops,
    (s.work.todo = .clear i :: ops ∧ w = 0) ∨ (s.work.todo = .mixStore i :: ops ∧ w = s.work.tmp) ∨
      (s.work.todo = .gainStore i :: ops ∧ w = fmul s.work.tmp s.mix.masterVol.current)

/-- CONTROL's next step is the block reset: a write of 1 to CTRL (70_reset_and_hazards.md R390). -/
def State.resetsNext (s : State) : Prop :=
  s.nextAgent.1 = .control ∧ s.port.w2Wait = none ∧ s.port.pushWait = none ∧
    ∃ xs, s.port.control = ⟨.write, s.cfg.base, 4, 1⟩ :: xs

/-- The state after `n` polls, or as many as there are packets (49_polyphony.md R322). -/
def State.pollTimes (s : State) : Nat → State
  | 0 => s
  | n + 1 =>
    match s.poll with
    | some (_, t) => t.pollTimes n
    | none => s

/-- `n` steps of AUDIO alone. -/
def audioRun : Nat → State → Host.Outcome State Fault Refusal
  | 0, s => .next s
  | n + 1, s =>
    match s.audioStep with
    | .next t => audioRun n t
    | .fault r => .fault r
    | .refused r => .refused r

/-- The pattern `r` is `rne32(n / d · 2^-149)` for `d > 0` (00_scope.md R11): no finite value lies nearer, of two as near the
pattern is the even one, and from half a unit above the largest finite value on it is an infinity. The sign of a zero is
left open (log 21). -/
def IsRne32 (r : Word) (n : Int) (d : Nat) : Prop :=
  (|n| < d * ((2 ^ 25 - 1) * 2 ^ 252) → fNotFinite r = false ∧ ∀ y : Word, fNotFinite y = false →
    |fUnits r * d - n| ≤ |fUnits y * d - n| ∧
      (|fUnits r * d - n| = |fUnits y * d - n| → fUnits y ≠ fUnits r → r.toNat % 2 = 0)) ∧
  (d * ((2 ^ 25 - 1) * 2 ^ 252) ≤ n → r = 0x7F800000) ∧
  (n ≤ -(d * ((2 ^ 25 - 1) * 2 ^ 252) : Int) → r = 0xFF800000)

/-- `sm_next` repeated (44_smoother.md R223). -/
def Smoother.iter : Nat → Smoother → Smoother
  | 0, m => m
  | n + 1, m => Smoother.iter n m.next

/-- `env_tick` repeated (46_envelope.md R266). -/
def Voice.ticks : Nat → Voice → Voice
  | 0, x => x
  | n + 1, x => Voice.ticks n x.envTick

/-- A smoother at rest: no ramp, no pending target (46_envelope.md R275). -/
def Smoother.atRest (m : Smoother) : Prop := m.remaining = 0 ∧ m.hasNew = false ∧ m.current = m.target

/-- The hypotheses of 46_envelope.md R275: the four envelope smoothers at rest on the envelope's own lengths and level. -/
def Voice.envAtRest (x : Voice) : Prop :=
  x.sus.atRest ∧ x.att.atRest ∧ x.dec.atRest ∧ x.rel.atRest ∧
    x.sus.current = x.env.sustainLevel ∧ x.att.current = x.env.attackSamples ∧
    x.dec.current = x.env.decaySamples ∧ x.rel.current = x.env.releaseSamples ∧
    0 ≤ s32 x.att.current ∧ 0 ≤ s32 x.dec.current ∧ 0 ≤ s32 x.rel.current

/-- At most one active voice holds a note, and it is the first voice that is active or in Release with that note
(49_polyphony.md R344 item 1). -/
def OneHolder (vs : List Voice) : Prop :=
  ∀ v, v < vs.length → ∀ x, vs[v]? = some x → x.active = true →
    ∀ u, u < vs.length → ∀ y, vs[u]? = some y → y.midiNote = x.midiNote →
      (y.active = true ∨ y.env.state = .release) → v ≤ u ∧ (y.active = true → u = v)

end Sys2Proof.Machine
end

