-- ==== Sys2Proof/Certificates/Slice0/Obligations.lean ====
section
/-! DEFINITION. The statements for the provers. Each docstring names the rules it formalises. -/

open Sys2Proof Sys2Proof.Machine

/-! ### Arithmetic UOPs (41_fixpoint.md) -/

/-- R142, R143, R144, R146, R148, R149, R150, R153: the decoder takes each word to its UOP, and the UOP, in every state,
answers the state with `UOP_R` at the value the source's 64-bit datapath gives, and nothing else changed. -/
def Obligations.ArithmeticUops : Prop :=
  ∀ s : State,
    (decodeUop 0x00000000 = .nop ∧ exec .nop s = .next s) ∧
    (decodeUop 0x01000000 = .add ∧ exec .add s = .next (s.setR (s.regs.a + s.regs.b))) ∧
    (decodeUop 0x02000000 = .sub ∧ exec .sub s = .next (s.setR (s.regs.a - s.regs.b))) ∧
    (decodeUop 0x03000000 = .mul ∧ exec .mul s =
      .next (s.setR (((s.regs.a.signExtend 64 * s.regs.b.signExtend 64).sshiftRight 15).setWidth 32))) ∧
    (decodeUop 0x05000000 = .clamp ∧ exec .clamp s =
      .next (s.setR (BitVec.ofInt 32 (max s.regs.b.toInt (min s.regs.c.toInt s.regs.a.toInt))))) ∧
    (decodeUop 0x07000000 = .shra ∧ exec .shra s =
      .next (s.setR (s.regs.a.sshiftRight (s.regs.b.toNat % 32)))) ∧
    (decodeUop 0x08000000 = .fromint ∧ exec .fromint s = .next (s.setR (s.regs.a <<< 15))) ∧
    (decodeUop 0x09000000 = .toint ∧ exec .toint s = .next (s.setR (s.regs.a.sshiftRight 15)))

/-- R145: a zero divisor records DIVZ and changes nothing else; any other gives the 64-bit quotient, rounded toward zero. -/
def Obligations.DivUop : Prop :=
  decodeUop 0x04000000 = .div ∧ ∀ s : State,
    (s.regs.b = 0 → exec .div s = .next (s.raise .divz (wordTop 0x04000000))) ∧
    (s.regs.b ≠ 0 → exec .div s =
      .next (s.setR (((s.regs.a.signExtend 64 <<< 15).sdiv (s.regs.b.signExtend 64)).setWidth 32)))

/-- ADDCLAMP: the exact sum of the two operands is clamped (90_conflicts.md C2, 92_eei_decisions.md D9): between ordered bounds it
is the sum itself, or the bound it passes, also where the sum leaves 32 bits; crossed bounds give the lower one. The files differ
on the exact sum; the model follows C2 (log 9). -/
def Obligations.AddClampUop : Prop :=
  decodeUop 0x06000000 = .addclamp ∧ ∀ s : State,
    let sum := s.regs.a.toInt + s.regs.b.toInt
    let lo := s.regs.c
    let hi := s.regs.d
    ∃ r : Word, exec .addclamp s = .next (s.setR r) ∧
      (lo.toInt ≤ hi.toInt → (sum < lo.toInt → r = lo) ∧ (hi.toInt < sum → r = hi) ∧
        (lo.toInt ≤ sum → sum ≤ hi.toInt → r.toInt = sum)) ∧
      (hi.toInt < lo.toInt → r = lo)

/-- R151, R152: FROMFLOAT of NaN or infinity records FLOAT; of any other operand it gives the integer nearest to its value
times 32768, halves away from zero, modulo 2^32. TOFLOAT gives the binary32 value nearest to `s32(x) / 32768`, ties to an even
pattern. -/
def Obligations.FloatConversions : Prop :=
  decodeUop 0x0A000000 = .fromfloat ∧ decodeUop 0x0B000000 = .tofloat ∧ ∀ s : State,
    (0x7F800000 ≤ s.regs.a.toNat % 2 ^ 31 → exec .fromfloat s = .next (s.raise .float (wordTop 0x0A000000))) ∧
    (s.regs.a.toNat % 2 ^ 31 < 0x7F800000 → ∃ q : Int, exec .fromfloat s = .next (s.setR (BitVec.ofInt 32 q)) ∧
      2 * |fUnits s.regs.a - q * 2 ^ 134| ≤ 2 ^ 134 ∧
      (2 * |fUnits s.regs.a - q * 2 ^ 134| = 2 ^ 134 → |fUnits s.regs.a| < |q * 2 ^ 134|)) ∧
    ∃ r : Word, exec .tofloat s = .next (s.setR r) ∧ fNotFinite r = false ∧
      ∀ y : Word, fNotFinite y = false →
        |fUnits r - s.regs.a.toInt * 2 ^ 134| ≤ |fUnits y - s.regs.a.toInt * 2 ^ 134| ∧
        (|fUnits r - s.regs.a.toInt * 2 ^ 134| = |fUnits y - s.regs.a.toInt * 2 ^ 134| →
          fUnits y ≠ fUnits r → r.toNat % 2 = 0)

/-- R154: ADD and SUB are a commutative group, MUL by ONE and by 0, DIV by ONE, and CLAMP between ordered bounds. -/
def Obligations.ArithmeticLaws : Prop :=
  ∀ a b c : Word,
    fadd a b = fadd b a ∧ fadd (fadd a b) c = fadd a (fadd b c) ∧ fadd a 0 = a ∧ fadd a (fsub 0 a) = 0 ∧
    fsub a b = fadd a (fsub 0 b) ∧
    fmul a 32768 = a ∧ fmul a 0 = 0 ∧ fmul a b = fmul b a ∧ fdiv a 32768 = a ∧
    (b.toInt ≤ c.toInt → b.toInt ≤ (fclamp a b c).toInt ∧ (fclamp a b c).toInt ≤ c.toInt ∧
      fclamp (fclamp a b c) b c = fclamp a b c ∧
      ∀ d : Word, a.toInt ≤ d.toInt → (fclamp a b c).toInt ≤ (fclamp d b c).toInt)

/-! ### Oscillators (42_oscillators.md, 43_sine_lut.md) -/

/-- R175, R176, R177: while no fill is in progress each control UOP of an oscillator that exists writes its one field, and
for the noise oscillator OSC_SETINC writes nothing. -/
def Obligations.OscControlUops : Prop :=
  ∀ (s : State) (v : Nat), s.seq.busy = false → v < s.cfg.nvoices →
    let x := s.voice v
    (exec (.oscReset v .saw) s = .next (s.setVoice v { x with saw := { x.saw with acc := 0 } }) ∧
      exec (.oscReset v .pulse) s = .next (s.setVoice v { x with pulse := { x.pulse with acc := 0 } }) ∧
      exec (.oscReset v .sub) s = .next (s.setVoice v { x with sub := { x.sub with acc := 0 } }) ∧
      exec (.oscReset v .noise) s = .next (s.setVoice v { x with seed := 0 }) ∧
      exec (.oscReset 0 .sine) s = .next { s with sine0 := { s.sine0 with acc := 0 } }) ∧
    (exec (.oscSetinc v .saw) s = .next (s.setVoice v { x with saw := { x.saw with inc := s.regs.a } }) ∧
      exec (.oscSetinc v .pulse) s = .next (s.setVoice v { x with pulse := { x.pulse with inc := s.regs.a } }) ∧
      exec (.oscSetinc v .sub) s = .next (s.setVoice v { x with sub := { x.sub with inc := s.regs.a } }) ∧
      exec (.oscSetinc v .noise) s = .next s ∧
      exec (.oscSetinc 0 .sine) s = .next { s with sine0 := { s.sine0 with inc := s.regs.a } }) ∧
    exec (.pulseSetw v) s = .next (s.setVoice v { x with width := s.regs.a })

/-- R180 to R187, R204: a sample UOP emits the sample of the state it finds and then advances the oscillator once; nothing
else changes. -/
def Obligations.OscSampleUops : Prop :=
  ∀ (s : State) (v : Nat), s.seq.busy = false → v < s.cfg.nvoices →
    let x := s.voice v
    exec (.sawNext v) s =
      .next ((s.setVoice v { x with saw := { x.saw with acc := x.saw.acc + x.saw.inc } }).setR
        ((x.saw.acc >>> 16) - 32768)) ∧
    exec (.pulseNext v) s =
      .next ((s.setVoice v { x with pulse := { x.pulse with acc := x.pulse.acc + x.pulse.inc } }).setR
        (if ((x.pulse.acc >>> 17).toNat : Int) < x.width.toInt then 32768 else -32768)) ∧
    exec (.subNext v) s =
      .next ((s.setVoice v { x with sub := { x.sub with acc := x.sub.acc + x.sub.inc } }).setR
        (if x.sub.acc.msb = false then 32768 else -32768)) ∧
    exec (.noiseNext v) s =
      .next ((s.setVoice v { x with seed := x.seed * 1664525 + 1013904223 }).setR
        ((x.seed.extractLsb' 16 16).signExtend 32)) ∧
    exec .sineNext s =
      .next ({ s with sine0 := { s.sine0 with acc := s.sine0.acc + s.sine0.inc } }.setR (sineInterp s.cfg s.sine0.acc))

/-- R178: OSC_READ of an oscillator that exists gives the selected field and changes only `UOP_R`; a selector of 3 or more
records ILLEGAL. -/
def Obligations.OscReadUop : Prop :=
  ∀ (s : State) (v : Nat), s.seq.busy = false → v < s.cfg.nvoices →
    let x := s.voice v
    (s.regs.b = 0 →
      exec (.oscRead v .saw) s = .next (s.setR x.saw.acc) ∧ exec (.oscRead v .pulse) s = .next (s.setR x.pulse.acc) ∧
      exec (.oscRead v .sub) s = .next (s.setR x.sub.acc) ∧ exec (.oscRead v .noise) s = .next (s.setR x.seed) ∧
      exec (.oscRead 0 .sine) s = .next (s.setR s.sine0.acc)) ∧
    (s.regs.b = 1 →
      exec (.oscRead v .saw) s = .next (s.setR x.saw.inc) ∧ exec (.oscRead v .pulse) s = .next (s.setR x.pulse.inc) ∧
      exec (.oscRead v .sub) s = .next (s.setR x.sub.inc) ∧ exec (.oscRead v .noise) s = .next (s.setR 0) ∧
      exec (.oscRead 0 .sine) s = .next (s.setR s.sine0.inc)) ∧
    (s.regs.b = 2 →
      exec (.oscRead v .saw) s = .next (s.setR 0) ∧ exec (.oscRead v .pulse) s = .next (s.setR x.width) ∧
      exec (.oscRead v .sub) s = .next (s.setR 0) ∧ exec (.oscRead v .noise) s = .next (s.setR 0) ∧
      exec (.oscRead 0 .sine) s = .next (s.setR 0)) ∧
    (3 ≤ s.regs.b.toNat → ∀ k : Kind,
      (k ≠ .sine → exec (.oscRead v k) s = .next (s.raise .illegal (wordTop (encode (.oscRead v k))))) ∧
      exec (.oscRead 0 .sine) s = .next (s.raise .illegal (wordTop 0x24040000)))

/-- R179 with R171: the increment is the integer nearest to `f · 2^32 / SR`, halves away from zero, modulo 2^32; the sub
oscillator's is that of half the frequency; noise reads no operand; NaN and infinity record FLOAT for the others. -/
def Obligations.OscSetfreqUop : Prop :=
  ∀ (s : State) (v : Nat), s.seq.busy = false → v < s.cfg.nvoices → 0 < s.cfg.sr →
    let x := s.voice v
    let nearest (h : Int) (q : Int) : Prop :=
      2 * |fUnits s.regs.a * 2 ^ 32 - q * (h * s.cfg.sr * 2 ^ 149)| ≤ h * s.cfg.sr * 2 ^ 149 ∧
      (2 * |fUnits s.regs.a * 2 ^ 32 - q * (h * s.cfg.sr * 2 ^ 149)| = h * s.cfg.sr * 2 ^ 149 →
        |fUnits s.regs.a * 2 ^ 32| < |q * (h * s.cfg.sr * 2 ^ 149)|)
    exec (.oscSetfreq v .noise) s = .next s ∧
    (0x7F800000 ≤ s.regs.a.toNat % 2 ^ 31 → ∀ k : Kind, k ≠ .noise →
      exec (.oscSetfreq (if k = .sine then 0 else v) k) s =
        .next (s.raise .float (wordTop (encode (.oscSetfreq (if k = .sine then 0 else v) k))))) ∧
    (s.regs.a.toNat % 2 ^ 31 < 0x7F800000 → ∃ q h : Int, nearest 1 q ∧ nearest 2 h ∧
      exec (.oscSetfreq v .saw) s = .next (s.setVoice v { x with saw := { x.saw with inc := BitVec.ofInt 32 q } }) ∧
      exec (.oscSetfreq v .pulse) s = .next (s.setVoice v { x with pulse := { x.pulse with inc := BitVec.ofInt 32 q } }) ∧
      exec (.oscSetfreq v .sub) s = .next (s.setVoice v { x with sub := { x.sub with inc := BitVec.ofInt 32 h } }) ∧
      exec (.oscSetfreq 0 .sine) s = .next { s with sine0 := { s.sine0 with inc := BitVec.ofInt 32 q } })

/-- R202, R203: SINE_LUT interpolates between two neighbouring table entries, in every state, and its result lies between
them. -/
def Obligations.SineLutUop : Prop :=
  decodeUop 0x28000000 = .sineLut ∧ ∀ s : State,
    let idx := (s.regs.a >>> 22).toNat
    let frac : Int := ((s.regs.a >>> 7) &&& 0x7FFF).toNat
    let t0 := (sineRom s.cfg idx).toInt
    let t1 := (sineRom s.cfg ((idx + 1) % 1024)).toInt
    ∃ r : Word, exec .sineLut s = .next (s.setR r) ∧
      r.toInt = t0 + Int.fdiv (frac * (t1 - t0)) (2 ^ 15) ∧ min t0 t1 ≤ r.toInt ∧ r.toInt ≤ max t0 t1

/-- R171, R172: an entry of NOTE_INC and SUB_INC is the nearest integer to `f · 2^32 / SR`, for the real frequency whose
twelfth power the configuration gives (log 4), for the saw and pulse and half that for the sub oscillator. -/
def Obligations.NoteTablesRounded : Prop :=
  ∀ (c : Cfg) (n : Nat), c.legal = true → n < 128 → ∃ (f : NoteFreq) (q h : Nat), c.noteHz[n]? = some f ∧
    noteInc c n = BitVec.ofNat 32 q ∧ subInc c n = BitVec.ofNat 32 h ∧
    (q = 0 ∨ (2 * q - 1) ^ 12 * (f.den * c.sr ^ 12) ≤ 2 ^ 12 * (f.num * 2 ^ 384)) ∧
    2 ^ 12 * (f.num * 2 ^ 384) < (2 * q + 1) ^ 12 * (f.den * c.sr ^ 12) ∧
    (h = 0 ∨ (2 * h - 1) ^ 12 * (f.den * (2 * c.sr) ^ 12) ≤ 2 ^ 12 * (f.num * 2 ^ 384)) ∧
    2 ^ 12 * (f.num * 2 ^ 384) < (2 * h + 1) ^ 12 * (f.den * (2 * c.sr) ^ 12)

/-! ### Smoothers (44_smoother.md) -/

/-- R217, R219, R220: SM_RESET writes the ramp length alone; SM_SETVALUE puts the smoother at rest at its operand and
discards a pending target. -/
def Obligations.SmWriteUops : Prop :=
  ∀ (s : State) (id : SmId), s.seq.busy = false → (∀ v k, id = .voice v k → v < s.cfg.nvoices) →
    exec (.smReset id) s = .next (s.setSm id { s.sm id with rampLength := s.regs.a }) ∧
    exec (.smSetvalue id) s = .next (s.setSm id { s.sm id with
      current := s.regs.a, target := s.regs.a, step := 0, remaining := 0, hasNew := false })

/-- R221, R222: SM_SETTARGET, during a fill or not, stores the pending target, and CONTROL's next step stores the flag; the
two are separate steps. -/
def Obligations.SmSettargetUop : Prop :=
  ∀ (s : State) (id : SmId), s.voices.length = s.cfg.nvoices → (∀ v k, id = .voice v k → v < s.cfg.nvoices) →
    ∃ t u : State, exec (.smSettarget id) s = .next t ∧ t.controlStep = .next u ∧
      t.sm id = { s.sm id with pending := s.regs.a } ∧ t.port.w2Wait = some id ∧
      u.sm id = { s.sm id with pending := s.regs.a, hasNew := true } ∧ u.port.w2Wait = none ∧
      u = { s.setSm id { s.sm id with pending := s.regs.a, hasNew := true } with
        port := { s.port with w2Wait := none } }

/-- R223, R224: SM_NEXT returns `current` after the advance; a waiting target is taken first. -/
def Obligations.SmNextUop : Prop :=
  ∀ (s : State) (id : SmId), s.seq.busy = false → (∀ v k, id = .voice v k → v < s.cfg.nvoices) →
    let m := s.sm id
    let done (x : Smoother) := exec (.smNext id) s = .next ((s.setSm id x).setR x.current)
    (m.hasNew = false → m.remaining = 0 → done m) ∧
    (m.hasNew = false → m.remaining = 1 → done { m with current := m.target, remaining := 0 }) ∧
    (m.hasNew = false → 1 < m.remaining.toNat →
      done { m with current := m.current + m.step, remaining := m.remaining - 1 }) ∧
    (m.hasNew = true → m.rampLength = 0 →
      done { m with hasNew := false, target := m.pending, current := m.pending, step := 0, remaining := 0 }) ∧
    (m.hasNew = true → m.rampLength = 1 →
      done { m with hasNew := false, target := m.pending, current := m.pending, step := m.pending - m.current, remaining := 0 }) ∧
    (m.hasNew = true → 1 < m.rampLength.toNat →
      let step := BitVec.ofInt 32 (Int.tdiv (m.pending - m.current).toInt m.rampLength.toNat)
      done { m with
        hasNew := false, target := m.pending, step := step, current := m.current + step,
        remaining := m.rampLength - 1 })

/-- R225: SM_READ gives the selected field and changes only `UOP_R`; a selector of 7 or more records ILLEGAL. -/
def Obligations.SmReadUop : Prop :=
  ∀ (s : State) (id : SmId), s.seq.busy = false → (∀ v k, id = .voice v k → v < s.cfg.nvoices) →
    let m := s.sm id
    (s.regs.b = 0 → exec (.smRead id) s = .next (s.setR m.current)) ∧
    (s.regs.b = 1 → exec (.smRead id) s = .next (s.setR m.target)) ∧
    (s.regs.b = 2 → exec (.smRead id) s = .next (s.setR m.step)) ∧
    (s.regs.b = 3 → exec (.smRead id) s = .next (s.setR m.remaining)) ∧
    (s.regs.b = 4 → exec (.smRead id) s = .next (s.setR m.rampLength)) ∧
    (s.regs.b = 5 → exec (.smRead id) s = .next (s.setR m.pending)) ∧
    (s.regs.b = 6 → exec (.smRead id) s = .next (s.setR (if m.hasNew then 1 else 0))) ∧
    (7 ≤ s.regs.b.toNat → exec (.smRead id) s = .next (s.raise .illegal (wordTop (encode (.smRead id)))))

/-- R225 law 1: after set_target(b) and as many calls of next as the ramp is long, `current` is b; with ramp length 0
after one call. -/
def Obligations.SmootherReachesTarget : Prop :=
  ∀ (m : Smoother) (b : Word),
    (Smoother.iter m.rampLength.toNat (m.setTarget b)).current = (if m.rampLength = 0 then m.current else b) ∧
    (m.rampLength = 0 → (Smoother.iter 1 (m.setTarget b)).current = b)

/-! ### Parameter cells (45_parameters.md) -/

/-- R242, R243: NaN records FLOAT and stores nothing; any other operand is clamped to the parameter's range and stored; no
other cell and nothing else changes, during a fill or not. -/
def Obligations.ParamSetUop : Prop :=
  ∀ (s : State) (i : Fin 12), s.cells.length = 12 →
    let p := paramMeta i.val
    (fIsNaN s.regs.a = true → exec (.paramSet i) s = .next (s.raise .float (wordTop (encode (.paramSet i))))) ∧
    (fIsNaN s.regs.a = false → ∃ t : State, exec (.paramSet i) s = .next t ∧ t = { s with cells := t.cells } ∧
      (∀ j, j ≠ i.val → t.cells[j]? = s.cells[j]?) ∧
      (fUnits s.regs.a < fUnits p.min → (t.cell i.val).latest = p.min) ∧
      (fUnits p.max < fUnits s.regs.a → (t.cell i.val).latest = p.max) ∧
      (fUnits p.min ≤ fUnits s.regs.a → fUnits s.regs.a ≤ fUnits p.max → (t.cell i.val).latest = s.regs.a))

/-- R246, R247: PARAM_SETN stores `min + c · (max - min)` for the operand clamped to 0..1, each operation rounded to
nearest-even; the second clamp changes nothing, since that value is in range; NaN records FLOAT; nothing but the one cell
changes. -/
def Obligations.ParamSetnUop : Prop :=
  (∀ (s : State) (i : Fin 12), s.cells.length = 12 →
    let p := paramMeta i.val
    let c : Word := if fUnits s.regs.a < 0 then 0 else if fUnits 0x3F800000 < fUnits s.regs.a then 0x3F800000 else s.regs.a
    let v := fpAdd p.min (fpMul c (fpSub p.max p.min))
    (fIsNaN s.regs.a = true → exec (.paramSetn i) s = .next (s.raise .float (wordTop (encode (.paramSetn i))))) ∧
    (fIsNaN s.regs.a = false → ∃ t : State, exec (.paramSetn i) s = .next t ∧ t = { s with cells := t.cells } ∧
      (∀ j, j ≠ i.val → t.cells[j]? = s.cells[j]?) ∧ (t.cell i.val).latest = v ∧ InRange i.val v)) ∧
  ∀ x y : Word, fNotFinite x = false → fNotFinite y = false →
    IsRne32 (fpAdd x y) (fUnits x + fUnits y) 1 ∧ IsRne32 (fpSub x y) (fUnits x - fUnits y) 1 ∧
      IsRne32 (fpMul x y) (fUnits x * fUnits y) (2 ^ 149)

/-- R240, R244, R245, R248, R249, R251: the reads of a cell change only `UOP_R`, and the rows of the parameter table they and the
other statements read are R240's, written out here; a selector of 5 or more records ILLEGAL; the division of PARAM_GETN is rounded
to nearest-even (its subtractions: ParamSetnUop). -/
def Obligations.ParamReadUops : Prop :=
  (∀ (s : State) (i : Fin 12),
    let rows : List ParamMeta := [
      { min := 0x3A83126F, max := 0x40200000, default := 0x3C23D70A, cc := 74 },
      { min := 0x3B449BA6, max := 0x40000000, default := 0x3E4CCCCD, cc := 71 },
      { min := 0x00000000, max := 0x3F800000, default := 0x3E99999A, cc := 73 },
      { min := 0x3C23D70A, max := 0x40A00000, default := 0x3DCCCCCD, cc := 72 },
      { min := 0x00000000, max := 0x3F800000, default := 0x3F800000, cc := 79 },
      { min := 0x00000000, max := 0x3F800000, default := 0x00000000, cc := 80 },
      { min := 0x00000000, max := 0x3F800000, default := 0x00000000, cc := 82 },
      { min := 0x00000000, max := 0x3F800000, default := 0x00000000, cc := 78 },
      { min := 0x3D4CCCCD, max := 0x3F733333, default := 0x3F000000, cc := 81 },
      { min := 0x00000000, max := 0x3F800000, default := 0x3F000000, cc := 76 },
      { min := 0x00000000, max := 0x3F800000, default := 0x3E4CCCCD, cc := 77 },
      { min := 0x00000000, max := 0x3F800000, default := 0x3D4CCCCD, cc := 75 }]
    let p := paramMeta i.val
    rows[i.val]? = some p ∧
    (s.regs.b = 0 → exec (.paramGet i) s = .next (s.setR (s.cell i.val).latest)) ∧
    (s.regs.b = 1 → exec (.paramGet i) s = .next (s.setR p.min)) ∧
    (s.regs.b = 2 → exec (.paramGet i) s = .next (s.setR p.max)) ∧
    (s.regs.b = 3 → exec (.paramGet i) s = .next (s.setR p.default)) ∧
    (s.regs.b = 4 → exec (.paramGet i) s = .next (s.setR (BitVec.ofNat 32 p.cc)) ∧ p.cc ≤ 127) ∧
    (5 ≤ s.regs.b.toNat → exec (.paramGet i) s = .next (s.raise .illegal (wordTop (encode (.paramGet i))))) ∧
    exec (.paramGetn i) s =
      .next (s.setR (fpDiv (fpSub (s.cell i.val).latest p.min) (fpSub p.max p.min)))) ∧
  ∀ x y : Word, fNotFinite x = false → fNotFinite y = false → fUnits y ≠ 0 →
    IsRne32 (fpDiv x y) (fUnits x * (fUnits y).sign * 2 ^ 149) (fUnits y).natAbs

/-- R252: for the parameters with range 0..1 the normalized view gives back every operand in 0..1 exactly. -/
def Obligations.ParamRoundTrip : Prop :=
  ∀ (s t u : State) (i : Fin 12), s.cells.length = 12 → i.val ∈ [2, 4, 5, 6, 7, 9, 10, 11] →
    fIsNaN s.regs.a = false → 0 ≤ fUnits s.regs.a → fUnits s.regs.a ≤ fUnits 0x3F800000 →
    exec (.paramSetn i) s = .next t → exec (.paramGetn i) t = .next u → fUnits u.regs.r = fUnits s.regs.a

/-- R250, R337: AUDIO converts a finite cell value to the integer nearest to the value times SR (the three times) or times 32768
(the others), halves away from zero, modulo 2^32; what it converts a cell in range to lies in the range the rule gives, at both
rates; and SAMPLE's unit for
cell `i`, run with no other agent between, writes `LS[i]` and sends the value to every smoother the cell feeds (W1 and W2)
where the value differs from `LS[i]`, and otherwise changes nothing: of a voice no more than its mailboxes. The cut into units is
log 12's; 9 and 10 stand for `CUT_FIX` and `RES_FIX`. -/
def Obligations.SampledRanges : Prop :=
  (∀ (c : Cfg) (i : Nat) (w : Word), i < 12 → fNotFinite w = false →
    let n : Int := fUnits w * (if i = 0 ∨ i = 1 ∨ i = 3 then (c.sr : Int) else 32768)
    ∃ q : Int, sampleValue c i w = BitVec.ofInt 32 q ∧ 2 * |n - q * 2 ^ 149| ≤ 2 ^ 149 ∧
      (2 * |n - q * 2 ^ 149| = 2 ^ 149 → |n| < |q * 2 ^ 149|)) ∧
  (∀ (c : Cfg) (i : Nat) (w : Word), c.legal = true → InRange i w →
    ((i = 2 ∨ i = 4 ∨ i = 5 ∨ i = 6 ∨ i = 7 ∨ i = 9 ∨ i = 10 ∨ i = 11) →
      0 ≤ (sampleValue c i w).toInt ∧ (sampleValue c i w).toInt ≤ 32768) ∧
    (i = 8 → 1638 ≤ (sampleValue c i w).toInt ∧ (sampleValue c i w).toInt ≤ 31130) ∧
    (c.sr = 44100 →
      (i = 0 → 44 ≤ (sampleValue c i w).toInt ∧ (sampleValue c i w).toInt ≤ 110250) ∧
      (i = 1 → 132 ≤ (sampleValue c i w).toInt ∧ (sampleValue c i w).toInt ≤ 88200) ∧
      (i = 3 → 441 ≤ (sampleValue c i w).toInt ∧ (sampleValue c i w).toInt ≤ 220500)) ∧
    (c.sr = 22050 →
      (i = 0 → 22 ≤ (sampleValue c i w).toInt ∧ (sampleValue c i w).toInt ≤ 55125) ∧
      (i = 1 → 66 ≤ (sampleValue c i w).toInt ∧ (sampleValue c i w).toInt ≤ 44100) ∧
      (i = 3 → 220 ≤ (sampleValue c i w).toInt ∧ (sampleValue c i w).toInt ≤ 110250))) ∧
  ∀ (s : State) (i : Nat) (ops : List AudioOp), i < 12 → s.seq.busy = true → s.voices.length = s.cfg.nvoices →
    s.work.todo = .conv i :: ops →
    let x := sampleValue s.cfg i (s.work.latch.getD i 0)
    let feeds (id : SmId) : Prop := match i with
      | 0 => ∃ v, v < s.cfg.nvoices ∧ id = .voice v .att
      | 1 => ∃ v, v < s.cfg.nvoices ∧ id = .voice v .dec
      | 2 => ∃ v, v < s.cfg.nvoices ∧ id = .voice v .sus
      | 3 => ∃ v, v < s.cfg.nvoices ∧ id = .voice v .rel
      | 4 => id = .global .sawLvl
      | 5 => id = .global .pulseLvl
      | 6 => id = .global .subLvl
      | 7 => id = .global .noiseLvl
      | 8 => id = .global .pulseW
      | 11 => id = .global .masterVol
      | _ => False
    ∃ (n : Nat) (t : State), audioRun n s = .next t ∧ t.sent = s.sent.set i x ∧ t.sent.get i = x ∧
      t.voices.map Voice.noMailboxes = s.voices.map Voice.noMailboxes ∧
      (∀ id, feeds id → x ≠ s.sent.get i → t.sm id = { s.sm id with pending := x, hasNew := true }) ∧
      (∀ id, (¬feeds id ∨ x = s.sent.get i) → t.sm id = s.sm id) ∧
      t = { s with
        sent := t.sent, mix := t.mix, work := { s.work with todo := ops }, port := { s.port with draws := s.port.draws + n }
        voices := t.voices }

/-! ### Envelope (46_envelope.md) -/

/-- R264, R265, R270, R271: the two events of the envelope, by its state and the sign of its level. -/
def Obligations.EnvEventUops : Prop :=
  ∀ (s : State) (v : Nat), s.seq.busy = false → v < s.cfg.nvoices →
    let x := s.voice v
    let e := x.env
    (e.state = .stealFade → exec (.envNoteOn v) s = .next (s.setVoice v x)) ∧
    (e.state ≠ .stealFade → 0 < e.level.toInt → exec (.envNoteOn v) s =
      .next (s.setVoice v { x with env := { e with stealFadeStart := e.level, state := .stealFade, counter := 0 } })) ∧
    (e.state ≠ .stealFade → e.level.toInt ≤ 0 → exec (.envNoteOn v) s =
      .next (s.setVoice v { x with env := { e with state := .attack, counter := 0, level := 0 } })) ∧
    (e.state = .idle → exec (.envNoteOff v) s = .next (s.setVoice v x)) ∧
    (e.state ≠ .idle → exec (.envNoteOff v) s =
      .next (s.setVoice v { x with env := { e with releaseStart := e.level, state := .release, counter := 0 } }))

/-- R266, R269, R272: ENV_TICK advances the four envelope smoothers, updates the three times, and then moves the state
machine; only voice `v` and `UOP_R` change, and of the voice only its envelope and those smoothers. -/
def Obligations.EnvTickUop : Prop :=
  ∀ (s : State) (v : Nat), s.seq.busy = false → v < s.cfg.nvoices →
    let x := s.voice v
    let e := (((({ x.env with sustainLevel := x.sus.next.current } : Env).updateTime .attack
        x.att.next.current.toInt.toNat).updateTime .decay x.dec.next.current.toInt.toNat).updateTime .release
        x.rel.next.current.toInt.toNat)
    let c := e.counter.toNat + 1
    ∃ f : Env, exec (.envTick v) s =
        .next ((s.setVoice v { x with sus := x.sus.next, att := x.att.next, dec := x.dec.next, rel := x.rel.next, env := f }).setR
          f.level) ∧
      (e.state = .idle → f = { e with level := 0 }) ∧
      (e.state = .sustain → f = { e with level := if x.sus.next.target = 0 then 0 else e.sustainLevel }) ∧
      (e.state = .attack → e.attackSamples.toNat ≤ c → f = { e with counter := 0, state := .decay, level := 32768 }) ∧
      (e.state = .decay → e.decaySamples.toNat ≤ c → f = { e with counter := 0, state := .sustain, level := e.sustainLevel }) ∧
      (e.state = .release → e.releaseSamples.toNat ≤ c → f = { e with counter := 0, state := .idle, level := 0 }) ∧
      (e.state = .stealFade → e.stealFadeSamples.toNat ≤ c → f = { e with counter := 0, state := .attack, level := 0 }) ∧
      (e.state = .attack → c < e.attackSamples.toNat → f = { e with
        counter := BitVec.ofNat 32 c, level := BitVec.ofNat 32 (min 32768 (c * 2 ^ 15 / e.attackSamples.toNat)) }) ∧
      (e.state = .decay → c < e.decaySamples.toNat → f = { e with
        counter := BitVec.ofNat 32 c
        level := fsub 32768 (fmul (BitVec.ofNat 32 (min 32768 (c * 2 ^ 15 / e.decaySamples.toNat))) (fsub 32768 e.sustainLevel)) }) ∧
      (e.state = .release → c < e.releaseSamples.toNat → f = { e with
        counter := BitVec.ofNat 32 c
        level := fmul e.releaseStart (fsub 32768 (BitVec.ofNat 32 (min 32768 (c * 2 ^ 15 / e.releaseSamples.toNat)))) }) ∧
      (e.state = .stealFade → c < e.stealFadeSamples.toNat → f = { e with
        counter := BitVec.ofNat 32 c
        level := fmul e.stealFadeStart (fsub 32768 (BitVec.ofNat 32 (min 32768 (c * 2 ^ 15 / e.stealFadeSamples.toNat)))) })

/-- R267, R268: a new time count. The counter is recomputed only where the phase is the field's own and the fraction would
pass ONE; the level is never written. -/
def Obligations.EnvUpdateTime : Prop :=
  ∀ (e : Env) (n : Nat), n < 2 ^ 31 →
    let past := 0 < n ∧ 32768 < e.counter.toNat * 2 ^ 15 / n
    let l := e.level.toInt
    let at' (q : Int) : Word := BitVec.ofInt 32 (max 0 (min (n : Int) q))
    (n = e.attackSamples.toNat → e.updateTime .attack n = e) ∧
    (n = e.decaySamples.toNat → e.updateTime .decay n = e) ∧
    (n = e.releaseSamples.toNat → e.updateTime .release n = e) ∧
    (n ≠ e.attackSamples.toNat → ¬(e.state = .attack ∧ past) →
      e.updateTime .attack n = { e with attackSamples := BitVec.ofNat 32 n }) ∧
    (n ≠ e.decaySamples.toNat → ¬(e.state = .decay ∧ past) →
      e.updateTime .decay n = { e with decaySamples := BitVec.ofNat 32 n }) ∧
    (n ≠ e.releaseSamples.toNat → ¬(e.state = .release ∧ past) →
      e.updateTime .release n = { e with releaseSamples := BitVec.ofNat 32 n }) ∧
    (n ≠ e.attackSamples.toNat → e.state = .attack → past → e.updateTime .attack n =
      { e with attackSamples := BitVec.ofNat 32 n, counter := at' (Int.fdiv (max 0 l * n) (2 ^ 15)) }) ∧
    (n ≠ e.decaySamples.toNat → e.state = .decay → past → e.updateTime .decay n =
      { e with
        decaySamples := BitVec.ofNat 32 n
        counter := at' (if 32768 - e.sustainLevel.toInt ≤ 0 then n
          else Int.fdiv (max 0 (32768 - l) * n) (32768 - e.sustainLevel.toInt)) }) ∧
    (n ≠ e.releaseSamples.toNat → e.state = .release → past → e.updateTime .release n =
      { e with
        releaseSamples := BitVec.ofNat 32 n
        counter := at' (if e.releaseStart.toInt ≤ 0 then n
          else Int.fdiv (max 0 (e.releaseStart.toInt - l) * n) e.releaseStart.toInt) })

/-- R273, R274: the reads of an envelope change only `UOP_R`; a selector of 10 or more records ILLEGAL. -/
def Obligations.EnvReadUops : Prop :=
  ∀ (s : State) (v : Nat), s.seq.busy = false → v < s.cfg.nvoices →
    let e := (s.voice v).env
    let code : Word := match e.state with
      | .idle => 0
      | .stealFade => 1
      | .attack => 2
      | .decay => 3
      | .sustain => 4
      | .release => 5
    exec (.envLevel v) s = .next (s.setR e.level) ∧
    (s.regs.b = 0 → exec (.envRead v) s = .next (s.setR code)) ∧
    (s.regs.b = 1 → exec (.envRead v) s = .next (s.setR e.level)) ∧
    (s.regs.b = 2 → exec (.envRead v) s = .next (s.setR e.counter)) ∧
    (s.regs.b = 3 → exec (.envRead v) s = .next (s.setR e.attackSamples)) ∧
    (s.regs.b = 4 → exec (.envRead v) s = .next (s.setR e.decaySamples)) ∧
    (s.regs.b = 5 → exec (.envRead v) s = .next (s.setR e.releaseSamples)) ∧
    (s.regs.b = 6 → exec (.envRead v) s = .next (s.setR e.stealFadeSamples)) ∧
    (s.regs.b = 7 → exec (.envRead v) s = .next (s.setR e.sustainLevel)) ∧
    (s.regs.b = 8 → exec (.envRead v) s = .next (s.setR e.releaseStart)) ∧
    (s.regs.b = 9 → exec (.envRead v) s = .next (s.setR e.stealFadeStart)) ∧
    (10 ≤ s.regs.b.toNat → exec (.envRead v) s = .next (s.raise .illegal (wordTop (encode (.envRead v)))))

/-- R275 item 1: after note_on from Idle, with the smoothers at rest, the envelope is in Attack before tick A, which returns
ONE in Decay; it is in Decay before tick A + D, which enters Sustain at the sustain level; after a note_off in Sustain it is in
Release before tick R, which returns 0 in Idle. -/
def Obligations.EnvelopeTrajectory : Prop :=
  ∀ x : Voice, x.envAtRest → 1 ≤ x.env.attackSamples.toNat → 1 ≤ x.env.decaySamples.toNat →
    1 ≤ x.env.releaseSamples.toNat →
    (x.env.state = .idle → x.env.level = 0 →
      let y (k : Nat) := (Voice.ticks k { x with env := x.env.noteOn }).env
      let a := x.env.attackSamples.toNat
      let d := x.env.decaySamples.toNat
      (∀ k, k < a → (y k).state = .attack) ∧ (y a).state = .decay ∧ (y a).level = 32768 ∧
      (∀ k, a ≤ k → k < a + d → (y k).state = .decay) ∧
      (y (a + d)).state = .sustain ∧ (y (a + d)).level = x.env.sustainLevel) ∧
    (x.env.state = .sustain →
      let z (k : Nat) := (Voice.ticks k { x with env := x.env.noteOff }).env
      let r := x.env.releaseSamples.toNat
      (∀ k, k < r → (z k).state = .release) ∧ (z r).state = .idle ∧ (z r).level = 0)

/-- R275 item 2: a note_on at a positive level fades for exactly `steal_fade_samples` ticks, the level never rises, and the
fade ends at 0 in Attack. -/
def Obligations.StealFadeMonotone : Prop :=
  ∀ x : Voice, x.envAtRest → x.env.state ≠ .stealFade → 0 < x.env.level.toInt → 1 ≤ x.env.stealFadeSamples.toNat →
    let y (k : Nat) := (Voice.ticks k { x with env := x.env.noteOn }).env
    (∀ k, k < x.env.stealFadeSamples.toNat → (y k).state = .stealFade ∧ 0 ≤ (y k).level.toInt ∧
      (y (k + 1)).level.toInt ≤ (y k).level.toInt) ∧
    (y x.env.stealFadeSamples.toNat).state = .attack ∧ (y x.env.stealFadeSamples.toNat).level = 0

/-! ### Ladder filter (47_filter.md) -/

/-- R293, R295: one filter sample of voice `v`; only its stages and `UOP_R` change. -/
def Obligations.LadderStepUop : Prop :=
  ∀ (s : State) (v : Nat), s.seq.busy = false → v < s.cfg.nvoices →
    let x := s.voice v
    let g := s.regs.b
    let fb := fclamp (s.regs.a - fmul s.regs.c x.lad.s4) (-524288) 524288
    let s1 := x.lad.s1 + fmul g (fb - x.lad.s1)
    let s2 := x.lad.s2 + fmul g (s1 - x.lad.s2)
    let s3 := x.lad.s3 + fmul g (s2 - x.lad.s3)
    let s4 := fclamp (x.lad.s4 + fmul g (s3 - x.lad.s4)) (-262144) 262144
    exec (.ladderStep v) s =
      .next ((s.setVoice v { x with lad := ⟨s1, s2, s3, s4⟩ }).setR (fclamp (fmul s4 81920) (-524288) 524288))

/-- R290 to R292, R296 to R298: the coefficient UOPs change only `UOP_R`; in range they give the bounds of R290 and R291,
and CUTOFF_MOD's result always lies in 0..ONE. -/
def Obligations.CoefficientUops : Prop :=
  ∀ s : State,
    exec .ladderG s = .next (s.setR (33 + fmul 27787 s.regs.a)) ∧
    exec .ladderRes s = .next (s.setR (fmul 127795 s.regs.a)) ∧
    (0 ≤ s.regs.a.toInt → s.regs.a.toInt ≤ 32768 →
      33 ≤ (33 + fmul 27787 s.regs.a).toInt ∧ (33 + fmul 27787 s.regs.a).toInt ≤ 27820 ∧
      0 ≤ (fmul 127795 s.regs.a).toInt ∧ (fmul 127795 s.regs.a).toInt ≤ 127795) ∧
    ∃ r : Word, exec .cutoffMod s = .next (s.setR r) ∧ 0 ≤ r.toInt ∧ r.toInt ≤ 32768 ∧
      (let n : Int := min s.regs.c.toNat 127
       let kt := fmul (BitVec.ofInt 32 (Int.tdiv ((n - 60) * 32768) 12)) 9830
       r = fclamp (s.regs.a + fmul s.cfg.envAmount s.regs.b + fmul s.cfg.keyTrack kt) 0 32768)

/-- R299, R302: LADDER_READ gives the selected stage and changes only `UOP_R`, a selector of 4 or more records ILLEGAL; every
SVF_STEP word records ILLEGAL with its own bits 31:8, in every state. -/
def Obligations.LadderReadAndSvf : Prop :=
  (∀ (s : State) (v : Nat), s.seq.busy = false → v < s.cfg.nvoices →
    let l := (s.voice v).lad
    (s.regs.b = 0 → exec (.ladderRead v) s = .next (s.setR l.s1)) ∧
    (s.regs.b = 1 → exec (.ladderRead v) s = .next (s.setR l.s2)) ∧
    (s.regs.b = 2 → exec (.ladderRead v) s = .next (s.setR l.s3)) ∧
    (s.regs.b = 3 → exec (.ladderRead v) s = .next (s.setR l.s4)) ∧
    (4 ≤ s.regs.b.toNat → exec (.ladderRead v) s = .next (s.raise .illegal (wordTop (encode (.ladderRead v)))))) ∧
  ∀ (s : State) (w : Word), w.extractLsb' 24 8 = 0x68 →
    ∃ low, decodeUop w = .svfStep low ∧ exec (.svfStep low) s = .next (s.raise .illegal (wordTop w))

/-- R300: with `g` in 0..ONE, `res` in 0..127795, the input and the stages within 16.0, no stage leaves 16.0, each stage
lands between its old value and its input, `s4` stays within 8.0 and the output within 16.0. -/
def Obligations.LadderBounded : Prop :=
  ∀ (l : Ladder) (x g res : Word),
    0 ≤ g.toInt → g.toInt ≤ 32768 → 0 ≤ res.toInt → res.toInt ≤ 127795 → |x.toInt| ≤ 524288 →
    |l.s1.toInt| ≤ 524288 → |l.s2.toInt| ≤ 524288 → |l.s3.toInt| ≤ 524288 → |l.s4.toInt| ≤ 524288 →
    let t := l.step x g res
    let between (a b c : Word) : Prop := min a.toInt b.toInt ≤ c.toInt ∧ c.toInt ≤ max a.toInt b.toInt
    between l.s1 (l.feedback x res) t.s1 ∧ between l.s2 t.s1 t.s2 ∧ between l.s3 t.s2 t.s3 ∧
    |t.s1.toInt| ≤ 524288 ∧ |t.s2.toInt| ≤ 524288 ∧ |t.s3.toInt| ≤ 524288 ∧ |t.s4.toInt| ≤ 262144 ∧
    |t.output.toInt| ≤ 524288

/-! ### Voices and the voice manager (48_voice.md, 49_polyphony.md) -/

/-- R306, R307, R309, R312: VOICE_NOTE_ON, VOICE_NOTE_OFF and VOICE_READ on a voice that exists, while no fill is in
progress; nothing but that voice (and `UOP_R` for the read) changes. -/
def Obligations.VoiceEventUops : Prop :=
  ∀ (s : State) (v : Nat), s.seq.busy = false → v < s.cfg.nvoices →
    let x := s.voice v
    let n := min s.regs.a.toNat 127
    exec (.voiceNoteOn v) s = .next (s.setVoice v { x with
      midiNote := BitVec.ofNat 7 n
      active := true
      saw := ⟨0, noteInc s.cfg n⟩
      pulse := ⟨0, noteInc s.cfg n⟩
      sub := ⟨0, subInc s.cfg n⟩
      seed := 0
      vel := { x.vel with pending := s.regs.b, hasNew := true }
      env := x.env.noteOn }) ∧
    exec (.voiceNoteOff v) s = .next (s.setVoice v { x with active := false, env := x.env.noteOff }) ∧
    exec (.voiceRead v) s = .next (s.setR (BitVec.ofNat 32
      ((match x.env.state with
        | .idle => 0
        | .stealFade => 1
        | .attack => 2
        | .decay => 3
        | .sustain => 4
        | .release => 5) * 2 ^ 16 + (if x.active then 2 ^ 8 else 0) + x.midiNote.toNat)))

/-- R310, R311, R313 item 3: VOICE_RENDER completes with the sample of R310's formula, from the oscillators to the velocity;
each oscillator, the envelope, the ladder and the five voice smoothers advance once, the pulse width takes the clamped smoothed
width, note and `active` stay; for level and velocity in 0..ONE the output is within 16.0; an Idle voice gives 0. Only that voice
and `UOP_R` change. -/
def Obligations.VoiceRenderUop : Prop :=
  ∀ (s : State) (v : Nat), s.seq.busy = false → v < s.cfg.nvoices →
    let x := s.voice v
    let m := s.mix
    let width := fclamp m.pulseW.current 1638 31130
    let saw : Word := (x.saw.acc >>> 16) - 32768
    let pulse : Word := if ((x.pulse.acc >>> 17).toNat : Int) < width.toInt then 32768 else -32768
    let sub : Word := if x.sub.acc.msb = false then 32768 else -32768
    let noise : Word := (x.seed.extractLsb' 16 16).signExtend 32
    let sum := fmul saw m.sawLvl.current + fmul pulse m.pulseLvl.current + fmul sub m.subLvl.current +
      fmul noise m.noiseLvl.current
    let mix := sum.sshiftRight 2
    let e := x.envTick.env
    let kt := fmul (BitVec.ofInt 32 (Int.tdiv (((x.midiNote.toNat : Int) - 60) * 32768) 12)) 9830
    let cut := fclamp (s.sent.cutFix + fmul s.cfg.envAmount e.level + fmul s.cfg.keyTrack kt) 0 32768
    let g := 33 + fmul 27787 cut
    let fb := fclamp (mix - fmul (fmul 127795 s.sent.resFix) x.lad.s4) (-524288) 524288
    let s1 := x.lad.s1 + fmul g (fb - x.lad.s1)
    let s2 := x.lad.s2 + fmul g (s1 - x.lad.s2)
    let s3 := x.lad.s3 + fmul g (s2 - x.lad.s3)
    let s4 := fclamp (x.lad.s4 + fmul g (s3 - x.lad.s4)) (-262144) 262144
    let y : Voice := { x with
      width := width
      saw := ⟨x.saw.acc + x.saw.inc, x.saw.inc⟩
      pulse := ⟨x.pulse.acc + x.pulse.inc, x.pulse.inc⟩
      sub := ⟨x.sub.acc + x.sub.inc, x.sub.inc⟩
      seed := x.seed * 1664525 + 1013904223
      env := e
      lad := ⟨s1, s2, s3, s4⟩
      vel := x.vel.next, sus := x.sus.next, att := x.att.next, dec := x.dec.next, rel := x.rel.next }
    let r := fmul (fmul (fclamp (fmul s4 81920) (-524288) 524288) e.level) y.vel.current
    exec (.voiceRender v) s = .next ((s.setVoice v y).setR r) ∧
      (x.env.state = .idle → r = 0 ∧ e.level = 0) ∧ |s4.toInt| ≤ 262144 ∧
      (0 ≤ e.level.toInt → e.level.toInt ≤ 32768 → 0 ≤ y.vel.current.toInt → y.vel.current.toInt ≤ 32768 →
        |r.toInt| ≤ 524288)

/-- R332, R336: VM_SELECT packs the voice the five steps choose; each step's answer has that step's property, and no earlier
step applies. Only `UOP_R` changes. -/
def Obligations.VmSelectUop : Prop :=
  ∀ s : State, s.seq.busy = false → s.cfg.legal = true → s.voices.length = s.cfg.nvoices →
    let n := BitVec.ofNat 7 (min s.regs.a.toNat 127)
    let holds (u : Nat) : Prop := (s.voice u).midiNote = n ∧ ((s.voice u).active = true ∨ (s.voice u).env.state = .release)
    let state (u : Nat) := (s.voice u).env.state
    let level (u : Nat) : Int := (s.voice u).env.level.toInt
    let noVoice (p : Nat → Prop) : Prop := ∀ u, u < s.cfg.nvoices → ¬p u
    let first (p : Nat → Prop) (v : Nat) : Prop := p v ∧ ∀ u, u < v → ¬p u
    let quietest (p : Nat → Prop) (v : Nat) : Prop := p v ∧ ∀ u, u < s.cfg.nvoices → p u → level v ≤ level u ∧ (u < v → level v < level u)
    ∃ v k : Nat, v < s.cfg.nvoices ∧ 1 ≤ k ∧ k ≤ 5 ∧
      exec .vmSelect s = .next (s.setR (BitVec.ofNat 32 (k * 2 ^ 16 + (if 3 ≤ k then 2 ^ 8 else 0) + v))) ∧
      (k = 1 → first holds v) ∧
      (k = 2 → noVoice holds ∧ first (fun u => state u = .idle) v) ∧
      (k = 3 → noVoice holds ∧ noVoice (fun u => state u = .idle) ∧ first (fun u => state u = .release) v) ∧
      (k = 4 → noVoice holds ∧ noVoice (fun u => state u = .idle) ∧ noVoice (fun u => state u = .release) ∧
        quietest (fun u => state u = .sustain) v) ∧
      (k = 5 → noVoice holds ∧ noVoice (fun u => state u = .idle) ∧ noVoice (fun u => state u = .release) ∧
        noVoice (fun u => state u = .sustain) ∧ quietest (fun _ => True) v)

/-- R264, R306, R325, R331, R333: a note-on packet starts the chosen voice at phase 0 with its note and leaves the velocity's two
stores and the envelope's event as AUDIO's next units (log 12); only a steal writes `last_stolen`. During a fill these three units,
with no other agent between, put the velocity in the voice's mailbox and the envelope in a fade or in Attack, as `voice_note_on`
does whole, and change nothing else but the draw counter (log 6). -/
def Obligations.EvtNoteOnMeaning : Prop :=
  ∀ (s : State) (d1 d2 rsv : Byte),
    let n := min d1.toNat 127
    let v := (selectVoice s.voices (BitVec.ofNat 7 n)).1
    let step := (selectVoice s.voices (BitVec.ofNat 7 n)).2
    let started : Voice := { s.voice v with
      midiNote := BitVec.ofNat 7 n
      active := true
      saw := ⟨0, noteInc s.cfg n⟩
      pulse := ⟨0, noteInc s.cfg n⟩
      sub := ⟨0, subInc s.cfg n⟩
      seed := 0 }
    let e := started.env
    ∃ (vel : Int) (t : State), 2 * |vel * 127 - (min d2.toNat 127 : Nat) * 32768| < 127 ∧
      exec (.evtNoteOn d1 d2 rsv) s = .next t ∧
      t = { s with
        voices := s.voices.set v started
        lastStolen := if 3 ≤ step then BitVec.ofNat 3 v else s.lastStolen
        work := { s.work with
          todo := [.w1 (.voice v .vel) (BitVec.ofInt 32 vel), .w2 (.voice v .vel), .envOn v] ++ s.work.todo } } ∧
      (s.seq.busy = true → ∃ y : Voice,
        audioRun 3 t = .next { t with
          voices := s.voices.set v y, work := s.work, port := { s.port with draws := s.port.draws + 3 } } ∧
        y = (s.voice v).noteOn s.cfg (BitVec.ofNat 7 n) (BitVec.ofInt 32 vel) ∧
        y = { started with vel := { started.vel with pending := BitVec.ofInt 32 vel, hasNew := true }, env := y.env } ∧
        (e.state = .stealFade → y.env = e) ∧
        (e.state ≠ .stealFade → 0 < e.level.toInt →
          y.env = { e with stealFadeStart := e.level, state := .stealFade, counter := 0 }) ∧
        (e.state ≠ .stealFade → e.level.toInt ≤ 0 → y.env = { e with state := .attack, counter := 0, level := 0 }))

/-- R326 to R330, R334, R335: note-off packets release the first active voice with the note, or nothing where none is active
with it; all-notes-off releases every active voice; any other packet changes nothing. -/
def Obligations.EvtOtherMeanings : Prop :=
  ∀ (s : State) (cmd d1 d2 rsv : Byte),
    let n := BitVec.ofNat 7 (min d1.toNat 127)
    let hit (u : Nat) : Prop := (s.voice u).active = true ∧ (s.voice u).midiNote = n
    (∀ v, v < s.voices.length → hit v → (∀ u, u < v → ¬hit u) →
      let t := s.setVoice v { s.voice v with active := false, env := (s.voice v).env.noteOff }
      exec (.evtNoteOff d1 d2 rsv) s = .next t ∧ exec (.evtNoteOnV0 d1 rsv) s = .next t) ∧
    ((∀ u, u < s.voices.length → ¬hit u) →
      exec (.evtNoteOff d1 d2 rsv) s = .next s ∧ exec (.evtNoteOnV0 d1 rsv) s = .next s) ∧
    (∃ t, exec (.evtAllNotesOff d2 rsv) s = .next t ∧ t = { s with voices := t.voices } ∧
      t.voices.length = s.voices.length ∧ ∀ v, v < s.voices.length →
        t.voice v = if (s.voice v).active then { s.voice v with active := false, env := (s.voice v).env.noteOff }
          else s.voice v) ∧
    exec (.evtCcIgnored d1 d2 rsv) s = .next s ∧ exec (.evtOtherIgnored cmd d1 d2 rsv) s = .next s

/-- R344 (property 7): where each note has at most one holder, starting the note on the voice vm_select chooses and then
vm_note_off of the same note leave exactly one voice that was active for it, now in Release, and none active; and the start keeps
that at-most-one property. The start is `selectVoice` and `Voice.noteOn`: what vm_note_on and its three units (log 12) come to
with no other agent between (EvtNoteOnMeaning). -/
def Obligations.NoteOnThenOff : Prop :=
  ∀ (s : State) (n : BitVec 7) (vel : Word), 0 < s.voices.length → OneHolder s.voices →
    let v := (selectVoice s.voices n).1
    let a := s.setVoice v ((s.voice v).noteOn s.cfg n vel)
    let b := a.vmNoteOff n
    v < s.voices.length ∧ OneHolder a.voices ∧
    (∀ u, u < a.voices.length → (((a.voice u).active = true ∧ (a.voice u).midiNote = n) ↔ u = v)) ∧
    (b.voice v).env.state = .release ∧ (b.voice v).midiNote = n ∧
    (∀ u, u < b.voices.length → ¬((b.voice u).active = true ∧ (b.voice u).midiNote = n)) ∧
    ∀ u, u ≠ v → b.voice u = s.voice u

/-! ### Commands of the port (30_encoding.md, 60_exceptions.md, 70_reset_and_hazards.md) -/

/-- R23, R391, R393: a CTRL write of 1 is RESET, of 0 nothing, of any other word ILLEGAL. RESET sets every register, the
sequencer, the FIFO, the cells, the smoothers, the voices, SINE0 and `last_stolen` to the values of R31 to R39 and R240, written
out here for both rates, keeps the output buffers and the configuration, and records no fault. Power-on sets the same values. -/
def Obligations.ResetCommand : Prop :=
  ∀ s : State,
    (s.request .control .write 0x000 1 = exec .reset (s.written .control) ∧
      s.request .control .write 0x000 0 = .next (s.written .control) ∧
      ∀ w : Word, 2 ≤ w.toNat →
        s.request .control .write 0x000 w = .next ((s.written .control).raise .illegal 0x000)) ∧
    ∃ t : State, exec .reset s = .next t ∧
      t.cfg = s.cfg ∧ t.mem = s.mem ∧
      t.seq = ⟨false, false, .clear, 0, false⟩ ∧ t.regs = ⟨0, 0, 0, 0, 0⟩ ∧ t.flt = ⟨0, 0⟩ ∧
      t.fifo.head = 0 ∧ t.fifo.count = 0 ∧
      t.cells = [0x3C23D70A, 0x3E4CCCCD, 0x3E99999A, 0x3DCCCCCD, 0x3F800000, 0, 0, 0, 0x3F000000, 0x3F000000, 0x3E4CCCCD,
        0x3D4CCCCD].map (fun w => ⟨w, [], 0⟩) ∧
      t.sent = Sampled.reset s.cfg ∧ t.mix = Mix.reset s.cfg ∧ t.sine0 = ⟨0, 0⟩ ∧
      t.voices = List.replicate s.cfg.nvoices (Voice.reset s.cfg) ∧ t.lastStolen = BitVec.ofNat 3 (s.cfg.nvoices - 1) ∧
      t.work.todo = [] ∧ t.port.pushWait = none ∧ t.port.w2Wait = none ∧
      (∀ ramp10 ramp50 attack decay release fade : Word,
        s.cfg.sr = 44100 ∧ [ramp10, ramp50, attack, decay, release, fade] = [441, 2205, 441, 8820, 4410, 220] ∨
          s.cfg.sr = 22050 ∧ [ramp10, ramp50, attack, decay, release, fade] = [221, 1103, 220, 4410, 2205, 110] →
        let rest (x ramp : Word) : Smoother :=
          { current := x, target := x, step := 0, remaining := 0, rampLength := ramp, pending := 0, hasNew := false }
        t.sent = {
          attack := attack, decay := decay, sustain := 9830, release := release
          saw := 32768, pulse := 0, sub := 0, noise := 0, width := 16384, master := 1638, cutFix := 16384, resFix := 6554 } ∧
        t.mix = {
          sawLvl := rest 32768 ramp10, pulseLvl := rest 0 ramp10, subLvl := rest 0 ramp10, noiseLvl := rest 0 ramp10
          pulseW := rest 16384 ramp10, masterVol := rest 1638 ramp50 } ∧
        t.voices = List.replicate s.cfg.nvoices {
          midiNote := 0, active := false, saw := ⟨0, 0⟩, pulse := ⟨0, 0⟩, width := 16384, sub := ⟨0, 0⟩, seed := 0
          lad := ⟨0, 0, 0, 0⟩
          env := {
            state := .idle, level := 0, counter := 0, attackSamples := attack, decaySamples := decay
            releaseSamples := release, stealFadeSamples := fade, sustainLevel := 9830, releaseStart := 0, stealFadeStart := 0 }
          vel := rest 0 ramp10, sus := rest 9830 ramp10, att := rest attack ramp10, dec := rest decay ramp10
          rel := rest release ramp10 }) ∧
      ∀ c : Cfg, exec .reset (State.powerOn c) = .next (State.powerOn c)

/-- R26, R341: a FILL write of 0 or 1 by either agent is a request; one while idle starts the fill of that buffer and makes
FILL_BUSY read 1, with the clearing of word 0 as AUDIO's one unit (log 12) and no overwritten word to read (log 6); one while busy
records UNDERRUN and is dropped; any other word records ILLEGAL with the offset of FILL. -/
def Obligations.FillCommand : Prop :=
  (∀ (s : State) (b : Bool),
    (s.seq.busy = false → ∃ t : State, exec (.fill b) s = .next t ∧
      t = { s with
        seq := { busy := true, buf := b, phase := .clear, frame := 0, lastBuf := s.seq.lastBuf }
        work := { s.work with todo := [.clear 0], past := [] } } ∧ t.status.getLsbD 0 = true) ∧
    (s.seq.busy = true → exec (.fill b) s = .next (s.raise .underrun (if b then 1 else 0)))) ∧
  ∀ (s : State) (a : Agent), a ≠ .audio →
    s.request a .write 0x00C 0 = exec (.fill false) (s.written a) ∧
    s.request a .write 0x00C 1 = exec (.fill true) (s.written a) ∧
    ∀ w : Word, 2 ≤ w.toNat → s.request a .write 0x00C w = .next ((s.written a).raise .illegal 0x00C)

/-- R321 to R323: a push to a FIFO that is not full appends the packet; to a full one it drops nothing and waits; a waiting push
is what CONTROL's next step tries again, and CONTROL issues no access before it is done; a poll takes exactly the oldest packet;
so the packets AUDIO gets are those pushed, in order. -/
def Obligations.FifoOrder : Prop :=
  ∀ (s : State) (w : Word), FifoInv s →
    (s.fifo.count < s.cfg.fifoDepth → ∃ t : State, exec (.evtPush w) s = .next t ∧
      t.packets = s.packets ++ [w] ∧ FifoInv t ∧ t.port.pushWait = none ∧
      t = { s with fifo := t.fifo, port := { s.port with pushWait := none } }) ∧
    (s.fifo.count = s.cfg.fifoDepth → exec (.evtPush w) s = .next { s with port := { s.port with pushWait := some w } }) ∧
    (s.port.w2Wait = none → s.port.pushWait = some w → ∃ t : State, s.controlStep = .next t ∧
      (s.fifo.count = s.cfg.fifoDepth → t = s) ∧
      (s.fifo.count < s.cfg.fifoDepth → t.packets = s.packets ++ [w] ∧
        t = { s with fifo := t.fifo, port := { s.port with pushWait := none } })) ∧
    (s.fifo.count = 0 → s.poll = none ∧ s.packets = []) ∧
    (0 < s.fifo.count → ∃ (x : Word) (t : State), s.poll = some (x, t) ∧ s.packets = x :: t.packets ∧ FifoInv t ∧
      t = { s with fifo := t.fifo, cells := t.cells })

/-- R113, R117, R120: writing a word to UOP_CMD runs the UOP the word encodes, and always completes; a word no row takes
records ILLEGAL with its bits 31:8. -/
def Obligations.UopIssueMeaning : Prop :=
  ∀ (s : State) (w : Word),
    exec (.uopIssue w) s = exec (decodeUop w) s ∧ (∃ t, exec (.uopIssue w) s = .next t) ∧
    (decodeUop w = .illegalUop w → exec (.illegalUop w) s = .next (s.raise .illegal (wordTop w)))

/-- R361: recording a fault sets its sticky bit of STATUS and no other bit, writes FAULT_INFO only if it holds no fault yet,
and changes nothing else; and no step but a CTRL reset clears a sticky bit or changes a recorded FAULT_INFO. -/
def Obligations.FaultRecord : Prop :=
  (∀ s t : State, step s = .next t → ¬s.resetsNext →
    (∀ k, s.flt.sticky.getLsbD k = true → t.flt.sticky.getLsbD k = true) ∧
    (s.flt.info.getLsbD 7 = true → t.flt.info = s.flt.info)) ∧
  ∀ (s : State) (code : FaultCode) (info : BitVec 24), s.fifo.count ≤ 128 →
    let k := match code with
      | .divz => 0
      | .illegal => 1
      | .busy => 2
      | .float => 3
      | .underrun => 4
    (s.raise code info).status = s.status ||| (1#32 <<< (16 + k)) ∧
    (s.flt.info.getLsbD 7 = false → (s.raise code info).flt.info = info ++ 1#1 ++ 0#4 ++ BitVec.ofNat 3 k) ∧
    (s.flt.info.getLsbD 7 = true → (s.raise code info).flt.info = s.flt.info) ∧
    s.raise code info = { s with flt := (s.raise code info).flt }

/-- R115, R116, R364: for every UOP that names a unit, an encoding check comes first: a unit the configuration does not admit
records ILLEGAL, fill or not; an audio-exclusive UOP on an admitted unit during a fill records BUSY; each with the word's own
bits 31:8 and no other effect. -/
def Obligations.UopChecks : Prop :=
  ∀ (s : State) (i : Instr), formOf i = .uop → i.wellFormed = true →
    (unitAdmitted s.cfg i = false → exec i s = .next (s.raise .illegal (wordTop (encode i)))) ∧
    (unitAdmitted s.cfg i = true → audioExclusive i = true → s.seq.busy = true →
      exec i s = .next (s.raise .busy (wordTop (encode i))))

/-! ### The port (20_memory.md) -/

/-- R71, R72: the port map for both agents in every legal configuration: who may read and who may write the registers, the
`8 · FRAMES` bytes of each buffer and the tables, and that nobody may access any other offset, the holes and everything from
0x3400 on; an access the map does not grant records ILLEGAL with its offset, delivers nothing and changes nothing else but the
draw counter, which a write moves (log 6). That offsets from 0x3400 on are unmapped offsets like the holes is the model's
deduction, and that INFO takes an offset of 2^24 or more modulo 2^24 is its choice (log 16). -/
def Obligations.PortPermissions : Prop :=
  (∀ (c : Cfg) (off : Nat), c.legal = true → off % 4 = 0 →
    let rd (a : Agent) := mayRead a (regionOf c off)
    let wr (a : Agent) := mayWrite a (regionOf c off)
    let buffer := (0x1000 ≤ off ∧ off < 0x1000 + 8 * c.frames) ∨ (0x1400 ≤ off ∧ off < 0x1400 + 8 * c.frames)
    let table := 0x2000 ≤ off ∧ off < 0x3400
    (wr .control = true ↔ off ∈ [0x000, 0x008, 0x00C, 0x010, 0x014, 0x018, 0x01C, 0x020] ∨ buffer) ∧
    (wr .driver = true ↔ off = 0x00C) ∧
    (rd .control = true ↔ off ≤ 0x02C ∨ buffer ∨ table) ∧
    (rd .driver = true ↔ off ∈ [0x004, 0x00C, 0x028, 0x02C] ∨ buffer ∨ table)) ∧
  ∀ (s : State) (a : Agent) (off : Nat) (d : Word),
    (mayRead a (regionOf s.cfg off) = false →
      s.request a .read off d = .next ((s.raise .illegal (BitVec.ofNat 24 off)).setReply a none)) ∧
    (mayWrite a (regionOf s.cfg off) = false →
      s.request a .write off d = .next (((s.raise .illegal (BitVec.ofNat 24 off)).setReply a none).drawn))

/-- R24, R25, R27, R72, R78, R79: the reads of the registers by CONTROL and by DRIVER, and of the tables by both, deliver them and
change nothing but the reply; STATUS and CONFIG have the bits of their tables; and two reads of one offset with nothing between
deliver the same word, the words of a buffer being filled among them. -/
def Obligations.RegisterReads : Prop :=
  (∀ s : State, s.cfg.legal = true → s.fifo.count ≤ s.cfg.fifoDepth →
    let reads (a : Agent) (off : Nat) (x : Word) : Prop := ∀ d, s.request a .read off d = .next (s.setReply a (some x))
    let both (off : Nat) (x : Word) : Prop := reads .control off x ∧ reads .driver off x
    reads .control 0x010 s.regs.a ∧ reads .control 0x014 s.regs.b ∧ reads .control 0x018 s.regs.c ∧
    reads .control 0x01C s.regs.d ∧ reads .control 0x024 s.regs.r ∧ reads .control 0x000 0 ∧ reads .control 0x008 0 ∧
    reads .control 0x020 0 ∧ both 0x00C 0 ∧ both 0x02C s.flt.info ∧
    (∀ i x, s.cfg.sineTable[i]? = some x → both (0x2000 + 4 * i) x) ∧
    (∀ n, n < 128 → both (0x3000 + 4 * n) (noteInc s.cfg n) ∧ both (0x3200 + 4 * n) (subInc s.cfg n)) ∧
    ∃ st cf : Word, both 0x004 st ∧ both 0x028 cf ∧
      st.getLsbD 0 = s.seq.busy ∧ (st.getLsbD 1 = true ↔ s.fifo.count = s.cfg.fifoDepth) ∧
      (st.getLsbD 2 = true ↔ s.fifo.count = 0) ∧ st.getLsbD 3 = s.seq.lastBuf ∧ st.extractLsb' 4 4 = 0 ∧
      (st.extractLsb' 8 8).toNat = s.fifo.count ∧ st.extractLsb' 16 5 = s.flt.sticky ∧ st.extractLsb' 21 11 = 0 ∧
      (cf.extractLsb' 0 4).toNat = s.cfg.nvoices ∧ (cf.getLsbD 4 = true ↔ s.cfg.sr = 22050) ∧
      (cf.getLsbD 5 = true ↔ s.cfg.frames = 128) ∧ cf.extractLsb' 6 2 = 0 ∧
      2 ^ (cf.extractLsb' 8 4).toNat = s.cfg.fifoDepth ∧ (cf.extractLsb' 12 4).toNat = s.cfg.mixShift ∧
      cf.extractLsb' 16 16 = 0) ∧
  ∀ (s t u : State) (a b : Agent) (off : Nat) (d e : Word),
    mayRead a (regionOf s.cfg off) = true → mayRead b (regionOf s.cfg off) = true →
    s.request a .read off d = .next t → t.request b .read off e = .next u →
    ∃ w, t = s.setReply a (some w) ∧ u = t.setReply b (some w)

/-- R22, R76, R78: a write of CONTROL to an operand register stores the whole word there, changes nothing else (of the model's own
fields the reply, and the draw counter of log 6), and the next read returns it. -/
def Obligations.OperandWrites : Prop :=
  ∀ (s : State) (w : Word),
    let t := s.written .control
    let back (u : State) (off : Nat) : Prop :=
      s.request .control .write off w = .next u ∧ u.request .control .read off 0 = .next (u.setReply .control (some w))
    back { t with regs := { s.regs with a := w } } 0x010 ∧ back { t with regs := { s.regs with b := w } } 0x014 ∧
    back { t with regs := { s.regs with c := w } } 0x018 ∧ back { t with regs := { s.regs with d := w } } 0x01C

/-- R74, R76, R78, R85, R402: a read of an output word by either agent delivers the word, whenever its buffer is not being
filled, also during the fill of the other; during its fill it delivers the word or one of those it replaced since the fill began
(the values CONTROL wrote among them, log 6), and changes only the reply. CONTROL's write of an output word while no fill is in
progress is read back whole, by either agent, and leaves every other byte as it was. -/
def Obligations.OutbufWriteRead : Prop :=
  (∀ (s : State) (a : Agent) (b : Bool) (i : Nat) (d : Word), s.cfg.legal = true → a ≠ .audio → i < s.cfg.bufWords →
    let off := (if b then 0x1400 else 0x1000) + 4 * i
    (s.seq.busy = false ∨ s.seq.buf ≠ b → s.request a .read off d = .next (s.setReply a (some (s.outWord b i)))) ∧
    (s.seq.busy = true → s.seq.buf = b → ∃ w : Word, (w = s.outWord b i ∨ (i, w) ∈ s.work.past) ∧
      s.request a .read off d = .next (s.setReply a (some w)))) ∧
  ∀ (s : State) (b : Bool) (i : Nat) (w d : Word), s.cfg.legal = true → MemoryInv s → s.seq.busy = false →
    i < s.cfg.bufWords →
    let off := (if b then 0x1400 else 0x1000) + 4 * i
    ∃ t : State, s.request .control .write off w = .next t ∧ t.outWord b i = w ∧
      (∀ a, a < off ∨ off + 4 ≤ a → t.mem.readByte a = s.mem.readByte a) ∧
      (∀ k, k < 4 → t.mem.readByte (off + k) = w.extractLsb' (8 * k) 8) ∧
      t.request .control .read off d = .next (t.setReply .control (some w)) ∧
      t.request .driver .read off d = .next (t.setReply .driver (some w))

/-- R7, R72, R75: exactly when a step stops. A configuration outside its legal values is refused. Under a legal one the step is
refused where the access the moving agent issues is not one aligned word, and goes on in every other case: an aligned word access
goes on whatever its address, a request at its offset from `BASE`, or, below `BASE`, where no offset is mapped (log 16), ILLEGAL and
no reply, a write moving the draw counter too (log 6), and nothing else. -/
def Obligations.StopsOfAccess : Prop :=
  (∀ s : State, s.cfg.legal = false → step s = .refused .illegalConfig) ∧
  (∀ s : State, s.cfg.legal = true →
    ((∃ a x, s.issues a x ∧ (x.width ≠ 4 ∨ x.addr % 4 ≠ 0)) → step s = .refused .accessShape) ∧
    ((∀ a x, s.issues a x → x.width = 4 ∧ x.addr % 4 = 0) → ∃ t, step s = .next t)) ∧
  ∀ (s : State) (a : Agent) (x : Access),
    ((x.width ≠ 4 ∨ x.addr % 4 ≠ 0) → s.access a x = .refused .accessShape) ∧
    (x.width = 4 → x.addr % 4 = 0 → ∃ t, s.access a x = .next t ∧
      (s.cfg.base ≤ x.addr → s.request a x.dir (x.addr - s.cfg.base) x.data = .next t) ∧
      (x.addr < s.cfg.base → t =
        let denied := (s.raise .illegal (BitVec.ofInt 24 (x.addr - s.cfg.base))).setReply a none
        match x.dir with
        | .read => denied
        | .write => { denied with port := { denied.port with draws := s.port.draws + 1 } }))

/-! ### Steps -/

/-- R80, R119, R120: when it is CONTROL's turn and its next access is the write of a well-formed command's word to the port
of its form, the step is exec of that command, on the state with the turn and the access taken; when AUDIO polls, the step is
exec of the packet the oldest word is, on the state without it. The third clause is the model's choice, no rule's: a UOP word
presented by withFetchWord (log 1, log 2) runs as the very next step. The draw counter moves in each (log 6). -/
def Obligations.StepRunsDecoded : Prop :=
  (∀ (s : State) (as : List Agent) (xs : List Access) (i : Instr), s.cfg.legal = true →
    s.port.sched = .control :: as → s.port.w2Wait = none → s.port.pushWait = none →
    formOf i ≠ .evt → i.wellFormed = true →
    let off := match formOf i with
      | .ctrl => 0x000
      | .push => 0x008
      | .fill => 0x00C
      | .uop | .cmd | .evt => 0x020
    s.port.control = ⟨.write, s.cfg.base + off, 4, encode i⟩ :: xs →
    step s = exec i { s with port := { s.port with
      sched := as, control := xs, controlReply := none, draws := s.port.draws + 1 } }) ∧
  (∀ (s t : State) (as : List Agent) (w : Word), s.cfg.legal = true → s.port.sched = .audio :: as →
    s.polls = true →
    ({ s with port := { s.port with sched := as, draws := s.port.draws + 1 } } : State).poll = some (w, t) →
    step s = exec (decodeEvt w) t) ∧
  ∀ (s : State) (w : Word), s.cfg.legal = true → decodeUop w ≠ .illegalUop w → w ≠ 1 →
    step (s.withFetchWord 32 w.toNat) = exec (decodeUop w)
      { s with port := { s.port with w2Wait := none, pushWait := none, controlReply := none, draws := s.port.draws + 1 } }

/-- R110, R113, R116: words written out from the tables decode to their commands. -/
def Obligations.DecodedWords : Prop :=
  decode .uop 0x01000000 = .ok .add ∧ decode .uop 0x23090000 = .ok (.pulseSetw 1) ∧
  decode .uop 0x22040000 = .ok .sineNext ∧ decode .uop 0x310A0000 = .ok (.smSetvalue (.voice 0 .att)) ∧
  decode .uop 0x400B0000 = .ok (.paramSet 11) ∧ decode .uop 0x53030000 = .ok (.envRead 3) ∧
  decode .uop 0x60020000 = .ok (.ladderStep 2) ∧ decode .uop 0x72010000 = .ok (.voiceRender 1) ∧
  decode .uop 0x78000000 = .ok .vmSelect ∧ decode .uop 0x01000001 = .ok (.illegalUop 0x01000001) ∧
  decode .uop 0x230A0000 = .ok (.illegalUop 0x230A0000) ∧ decode .uop 0x68000000 = .ok (.svfStep 0) ∧
  decode .evt 0x903C6400 = .ok (.evtNoteOn 60 100 0) ∧ decode .evt 0x903C0000 = .ok (.evtNoteOnV0 60 0) ∧
  decode .evt 0x803C0000 = .ok (.evtNoteOff 60 0 0) ∧ decode .evt 0xB07B0000 = .ok (.evtAllNotesOff 0 0) ∧
  decode .evt 0xB04A4000 = .ok (.evtCcIgnored 74 64 0) ∧ decode .evt 0x913C6400 = .ok (.evtOtherIgnored 0x91 60 100 0) ∧
  decode .ctrl 1 = .ok .reset ∧ decode .ctrl 0 = .error .ctrlZero ∧ decode .ctrl 2 = .error .ctrlReserved ∧
  decode .fill 1 = .ok (.fill true) ∧ decode .fill 3 = .error .fillReserved

/-- R110 to R117, R120: decoding and encoding agree, in both directions: the word of every well-formed command decodes, in
its form, to the command; and whatever a word decodes to is well-formed, of that form, and encodes to that word. -/
def Obligations.DecodeEncode : Prop :=
  (∀ i : Instr, i.wellFormed = true → decode (formOf i) (encode i) = .ok i) ∧
  ∀ (f : Form) (w : Word) (i : Instr), decode f w = .ok i → i.wellFormed = true ∧ formOf i = f ∧ encode i = w

/-! ### Invariants and the agents -/

/-- The reset state meets every invariant (R392), with the configuration of 00_scope.md R6. -/
def Obligations.ResetInv : Prop := Inv State.reset

/-- R42, R241, R323 law 3, R218, and the model's own bounds: every step keeps every invariant. -/
def Obligations.StepKeepsInv : Prop := ∀ s t : State, Inv s → step s = .next t → Inv t

/-- R71, R77, R78, R338 to R340, R391: exactly the steps that store an output word change memory, CONTROL's write of
`OUTBUF[b][i]` and AUDIO's units of CLEAR, FRAMES and GAIN (log 12): such a step leaves the word stored and every byte outside its
four as it was, and, in the buffer being filled, keeps the word it replaces among those a read may return (R85, log 6); any other
step, and exec of every command, leaves every byte; every step keeps the canonical form. -/
def Obligations.MemoryFrame : Prop :=
  (∀ s t : State, MemoryInv s → step s = .next t → MemoryInv t) ∧
  (∀ (i : Instr) (s t : State), exec i s = .next t → ∀ a, t.mem.readByte a = s.mem.readByte a) ∧
  (∀ s t : State, step s = .next t → (∀ b i w, ¬s.controlStores b i w) → (∀ i w, ¬s.audioStores i w) →
    ∀ a, t.mem.readByte a = s.mem.readByte a) ∧
  ∀ (s t : State) (b : Bool) (i : Nat) (w : Word), MemoryInv s → step s = .next t →
    (s.controlStores b i w ∨ s.audioStores i w ∧ b = s.seq.buf) →
    t.outWord b i = w ∧ (∀ a, (a < outOffset b i ∨ outOffset b i + 4 ≤ a) → t.mem.readByte a = s.mem.readByte a) ∧
      (s.seq.busy = true → b = s.seq.buf → t.work.past = s.work.past ++ [(i, s.outWord b i)])

/-- R20, R70 item 2, R84, R396: while a fill is in progress no step of CONTROL or DRIVER but a CTRL reset changes the
audio-exclusive state. -/
def Obligations.BusyIsolation : Prop :=
  ∀ s t : State, s.seq.busy = true → s.nextAgent.1 ≠ .audio → step s = .next t → ¬s.resetsNext →
    t.audioView = s.audioView

/-- R368, R375, R402: a step of AUDIO records no fault and writes no port register; while idle it changes nothing; during the
fill of one buffer it leaves every word of the other. -/
def Obligations.AudioStepFrame : Prop :=
  ∀ s t : State, s.audioStep = .next t →
    t.flt = s.flt ∧ t.regs = s.regs ∧ t.cfg = s.cfg ∧ (s.seq.busy = false → t = s) ∧
    (s.cfg.legal = true → MemoryInv s → FillInv s → ∀ i, i < s.cfg.bufWords →
      t.outWord (!s.seq.buf) i = s.outWord (!s.seq.buf) i)

/-- R310, R338, R84: AUDIO's rendering of a voice, unit by unit and with no other agent between, does to the voice and the
accumulator what `voice_render` (its formula: VoiceRenderUop) does whole, and skips an Idle voice; and AUDIO's frame `f` does what
R338 says: the five mix smoothers advance, every voice that is not Idle is rendered and summed, and the sum, shifted and clamped to
full scale, is written to both words of the frame and nowhere else. The units are the model's choice, log 12. -/
def Obligations.AudioRendersVoice : Prop :=
  (∀ (s : State) (v : Nat) (ops : List AudioOp), s.seq.busy = true → s.seq.phase = .frames → v < s.voices.length →
    s.work.todo = .voice v :: ops →
    let x := s.voice v
    let r := x.render s.cfg s.mix s.sent
    ∃ (n : Nat) (t : State), audioRun n s = .next t ∧
      (x.env.state = .idle → t = { s with
        work := { s.work with todo := ops }, port := { s.port with draws := s.port.draws + n } }) ∧
      (x.env.state ≠ .idle → ∃ z : Word, t = { s.setVoice v r.2 with
        work := { s.work with todo := ops, acc := fadd s.work.acc r.1, tmp := z }
        port := { s.port with draws := s.port.draws + n } })) ∧
  ∀ s : State, s.voices.length = s.cfg.nvoices → MemoryInv s → s.seq.busy = true → s.seq.phase = .frames →
    s.work.todo = [] → s.seq.frame < s.cfg.frames →
    let b := s.seq.buf
    let f := s.seq.frame
    let m : Mix := { s.mix with
      sawLvl := s.mix.sawLvl.next, pulseLvl := s.mix.pulseLvl.next, subLvl := s.mix.subLvl.next
      noiseLvl := s.mix.noiseLvl.next, pulseW := s.mix.pulseW.next }
    let idle (v : Nat) : Prop := (s.voice v).env.state = .idle
    let out (v : Nat) : Word := if (s.voice v).env.state = .idle then 0 else ((s.voice v).render s.cfg m s.sent).1
    let acc : Word := ((List.range s.cfg.nvoices).map out).foldl (fun a y => a + y) 0
    let y := fclamp (acc.sshiftRight s.cfg.mixShift) (-32768) 32767
    ∃ (n : Nat) (t : State), audioRun n s = .next t ∧ t.mix = m ∧
      (∀ v, v < s.cfg.nvoices → idle v → t.voice v = s.voice v) ∧
      (∀ v, v < s.cfg.nvoices → ¬idle v → t.voice v = ((s.voice v).render s.cfg m s.sent).2) ∧
      t.outWord b (2 * f) = y ∧ t.outWord b (2 * f + 1) = y ∧
      (∀ a, (a < outOffset b (2 * f) ∨ outOffset b (2 * f) + 8 ≤ a) → t.mem.readByte a = s.mem.readByte a) ∧
      t = { s with
        seq := { s.seq with frame := f + 1 }, mix := m, voices := t.voices, mem := t.mem
        work := { t.work with todo := [] }, port := { s.port with draws := s.port.draws + n } }

/-- R337, R339, R340, R405: the phases of a fill follow each other in R340's order. CLEAR, as FILL starts it, writes 0 to every
word of the buffer and ends in DRAIN; DRAIN ends in SAMPLE with the FIFO empty; SAMPLE loads every cell once, a value visible to
that load and none older visible after, leaves `LS` (9 and 10: `CUT_FIX` and `RES_FIX`) at the converted values and ends in FRAMES;
FRAMES ends in GAIN and GAIN in the idle sequencer after FRAMES frames. AUDIO's frame `f` of GAIN advances the master volume once
and multiplies both words of the frame by it, and touches no other word. A fill is a finite sequence of AUDIO steps: from every
state of a fill AUDIO alone ends it, and then `last_buf` is its buffer and the sequencer is idle at its start. The units are the
model's choice, log 12; which visible value a load returns is a draw, log 5. -/
def Obligations.FillTerminates : Prop :=
  (∀ s : State, s.cfg.legal = true → MemoryInv s → s.seq.busy = true → s.cells.length = 12 →
    let b := s.seq.buf
    let ends (p : State → Prop) : Prop := ∃ (n : Nat) (t : State), audioRun n s = .next t ∧ t.work.todo = [] ∧
      (∀ m, m < n → ∃ u : State, audioRun m s = .next u ∧ u.seq.phase = s.seq.phase) ∧
      t = { s with
        seq := t.seq, work := t.work, fifo := t.fifo, cells := t.cells, sent := t.sent, mix := t.mix, voices := t.voices
        lastStolen := t.lastStolen, mem := t.mem, port := { s.port with draws := t.port.draws } } ∧ p t
    (s.seq.phase = .clear → s.work.todo = [.clear 0] → ends fun t =>
      (∀ i, i < s.cfg.bufWords → t.outWord b i = 0) ∧
      (∀ a, (a < outOffset b 0 ∨ outOffset b s.cfg.bufWords ≤ a) → t.mem.readByte a = s.mem.readByte a) ∧
      t = { s with
        seq := { s.seq with phase := .drain }, work := t.work, mem := t.mem, port := { s.port with draws := t.port.draws } }) ∧
    (s.seq.phase = .drain → s.work.todo = [] → ends fun t =>
      t.seq = { s.seq with phase := .sample } ∧ t.fifo.count = 0 ∧ t.work.latch = [] ∧ t.sent = s.sent ∧ t.mem = s.mem) ∧
    (s.seq.phase = .sample → s.work.todo = [] → s.work.latch = [] → ends fun t =>
      t.seq = { s.seq with phase := .frames } ∧ t.cells.length = 12 ∧
      (∀ i, i < 12 → ∃ (k : Nat) (w : Word), (s.cell i).visible[k]? = some w ∧ t.sent.get i = sampleValue s.cfg i w ∧
        (t.cell i).visible = (s.cell i).visible.drop k) ∧
      t.fifo = s.fifo ∧ t.lastStolen = s.lastStolen ∧ t.mem = s.mem ∧ t.mix.noMailboxes = s.mix.noMailboxes ∧
      t.voices.map Voice.noMailboxes = s.voices.map Voice.noMailboxes) ∧
    (s.seq.phase = .frames → s.work.todo = [] → s.seq.frame = s.cfg.frames → ends fun t =>
      t = { s with seq := { s.seq with phase := .gain, frame := 0 }, port := { s.port with draws := t.port.draws } }) ∧
    (s.seq.phase = .gain → s.work.todo = [] → s.seq.frame = s.cfg.frames → ends fun t =>
      t = { s with
        seq := { busy := false, buf := b, phase := .clear, frame := 0, lastBuf := b }
        work := { s.work with past := [] }, port := { s.port with draws := t.port.draws } })) ∧
  (∀ s : State, MemoryInv s → s.seq.busy = true → s.seq.phase = .gain → s.work.todo = [] → s.seq.frame < s.cfg.frames →
    let b := s.seq.buf
    let f := s.seq.frame
    let g := s.mix.masterVol.next.current
    ∃ (n : Nat) (t : State), audioRun n s = .next t ∧
      t.outWord b (2 * f) = fmul (s.outWord b (2 * f)) g ∧ t.outWord b (2 * f + 1) = fmul (s.outWord b (2 * f + 1)) g ∧
      (∀ a, (a < outOffset b (2 * f) ∨ outOffset b (2 * f) + 8 ≤ a) → t.mem.readByte a = s.mem.readByte a) ∧
      t = { s with
        seq := { s.seq with frame := f + 1 }, mix := { s.mix with masterVol := s.mix.masterVol.next }, mem := t.mem
        work := { t.work with todo := [] }, port := { s.port with draws := s.port.draws + n } }) ∧
  ∀ s : State, s.cfg.legal = true → s.seq.busy = true →
    ∃ (n : Nat) (t : State), audioRun n s = .next t ∧
      t.seq = { busy := false, buf := s.seq.buf, phase := .clear, frame := 0, lastBuf := s.seq.buf }

/-- R397, R225 law 4: an SM_SETTARGET of CONTROL whose two stores fall between AUDIO's E2 and E3 of the same smoother is lost:
the flag is clear, the old target is taken, and the new value stays behind in `pending_target`. -/
def Obligations.LostUpdate : Prop :=
  ∀ (s : State) (id : SmId) (x : Word) (ops : List AudioOp) (as : List Agent) (xs : List Access),
    s.cfg.legal = true → s.voices.length = s.cfg.nvoices → (∀ v k, id = .voice v k → v < s.cfg.nvoices) →
    s.seq.busy = true → s.work.todo = .e3 id x :: ops → s.port.w2Wait = none → s.port.pushWait = none →
    s.port.sched = [.control, .control, .audio] ++ as →
    s.port.control = ⟨.write, s.cfg.base + 0x020, 4, encode (.smSettarget id)⟩ :: xs →
    ∃ a b c : State, step s = .next a ∧ step a = .next b ∧ step b = .next c ∧
      (b.sm id).hasNew = true ∧ (c.sm id).hasNew = false ∧ (c.sm id).target = x ∧ (c.sm id).pending = s.regs.a

/-- R81, R82, R337, R400: a PARAM_SET, then a push behind any packets that already wait, then further stores and AUDIO's loads,
and the polls up to the one that returns that packet: from then on a load of that cell returns the value stored or a later one,
and with nothing between exactly the value stored; no load ever returns a store older than one already returned; and AUDIO's unit that loads cell `i` is such a load: it
puts a visible value at the end of the loaded values and touches no other cell. Which value is a draw, log 5. -/
def Obligations.ReleaseAcquire : Prop :=
  (∀ (s t u : State) (i : Fin 12) (w : Word) (between : List (Fin 12 × Option Word)), s.cells.length = 12 → FifoInv s →
    s.fifo.count < s.cfg.fifoDepth → exec (.paramSet i) s = .next t → exec (.evtPush w) t = .next u →
    let z := between.foldl (fun x y => match y.2 with
      | some v => x.storeCell y.1.val v
      | none => x.loadCell y.1.val) u
    let later := between.filterMap fun y => if y.1 = i then y.2.map (paramClamp i.val) else none
    ∃ a : State, (z.pollTimes s.fifo.count).poll = some (w, a) ∧
      (a.cell i.val).visible <:+ (t.cell i.val).latest :: later ∧
      (between = [] → (a.cell i.val).visible = [(t.cell i.val).latest])) ∧
  (∀ (c : Cell) (k : Nat), k < c.visible.length →
    (c.load k).1 ∈ c.visible ∧ (c.load k).2.visible = c.visible.drop k ∧ (c.load k).2.latest = c.latest) ∧
  ∀ (s : State) (i : Nat) (ops : List AudioOp), s.cells.length = 12 → i < 12 → s.seq.busy = true →
    s.work.todo = .load i :: ops →
    ∃ (t : State) (k : Nat) (w : Word), s.audioStep = .next t ∧ (s.cell i).visible[k]? = some w ∧
      (t.cell i).visible = (s.cell i).visible.drop k ∧ (t.cell i).latest = (s.cell i).latest ∧
      (∀ j, j ≠ i → t.cell j = s.cell j) ∧
      t = { s with
        cells := t.cells, work := { s.work with todo := ops, latch := s.work.latch ++ [w] }
        port := { s.port with draws := t.port.draws } }
end

