-- ==== Sys2Proof/Laws/State.lean ====
section
/-! SUPPORT. One lemma per field per named update: what the update leaves alone, and what it writes. -/

namespace Sys2Proof.Machine

/-! ### `State.raise` -/

@[simp] theorem State.raise_cfg (s : State) (code : FaultCode) (info : BitVec 24) : (s.raise code info).cfg = s.cfg := rfl
@[simp] theorem State.raise_seq (s : State) (code : FaultCode) (info : BitVec 24) : (s.raise code info).seq = s.seq := rfl
@[simp] theorem State.raise_work (s : State) (code : FaultCode) (info : BitVec 24) : (s.raise code info).work = s.work := rfl
@[simp] theorem State.raise_regs (s : State) (code : FaultCode) (info : BitVec 24) : (s.raise code info).regs = s.regs := rfl
@[simp] theorem State.raise_fifo (s : State) (code : FaultCode) (info : BitVec 24) : (s.raise code info).fifo = s.fifo := rfl
@[simp] theorem State.raise_cells (s : State) (code : FaultCode) (info : BitVec 24) : (s.raise code info).cells = s.cells := rfl
@[simp] theorem State.raise_sent (s : State) (code : FaultCode) (info : BitVec 24) : (s.raise code info).sent = s.sent := rfl
@[simp] theorem State.raise_mix (s : State) (code : FaultCode) (info : BitVec 24) : (s.raise code info).mix = s.mix := rfl
@[simp] theorem State.raise_sine0 (s : State) (code : FaultCode) (info : BitVec 24) : (s.raise code info).sine0 = s.sine0 := rfl
@[simp] theorem State.raise_voices (s : State) (code : FaultCode) (info : BitVec 24) : (s.raise code info).voices = s.voices := rfl
@[simp] theorem State.raise_lastStolen (s : State) (code : FaultCode) (info : BitVec 24) : (s.raise code info).lastStolen = s.lastStolen := rfl
@[simp] theorem State.raise_mem (s : State) (code : FaultCode) (info : BitVec 24) : (s.raise code info).mem = s.mem := rfl
@[simp] theorem State.raise_port (s : State) (code : FaultCode) (info : BitVec 24) : (s.raise code info).port = s.port := rfl

/-! ### `State.setR` -/

@[simp] theorem State.setR_cfg (s : State) (v : Word) : (s.setR v).cfg = s.cfg := rfl
@[simp] theorem State.setR_seq (s : State) (v : Word) : (s.setR v).seq = s.seq := rfl
@[simp] theorem State.setR_work (s : State) (v : Word) : (s.setR v).work = s.work := rfl
@[simp] theorem State.setR_flt (s : State) (v : Word) : (s.setR v).flt = s.flt := rfl
@[simp] theorem State.setR_fifo (s : State) (v : Word) : (s.setR v).fifo = s.fifo := rfl
@[simp] theorem State.setR_cells (s : State) (v : Word) : (s.setR v).cells = s.cells := rfl
@[simp] theorem State.setR_sent (s : State) (v : Word) : (s.setR v).sent = s.sent := rfl
@[simp] theorem State.setR_mix (s : State) (v : Word) : (s.setR v).mix = s.mix := rfl
@[simp] theorem State.setR_sine0 (s : State) (v : Word) : (s.setR v).sine0 = s.sine0 := rfl
@[simp] theorem State.setR_voices (s : State) (v : Word) : (s.setR v).voices = s.voices := rfl
@[simp] theorem State.setR_lastStolen (s : State) (v : Word) : (s.setR v).lastStolen = s.lastStolen := rfl
@[simp] theorem State.setR_mem (s : State) (v : Word) : (s.setR v).mem = s.mem := rfl
@[simp] theorem State.setR_port (s : State) (v : Word) : (s.setR v).port = s.port := rfl

/-! ### `State.drawn` -/

@[simp] theorem State.drawn_cfg (s : State) : s.drawn.cfg = s.cfg := rfl
@[simp] theorem State.drawn_seq (s : State) : s.drawn.seq = s.seq := rfl
@[simp] theorem State.drawn_work (s : State) : s.drawn.work = s.work := rfl
@[simp] theorem State.drawn_regs (s : State) : s.drawn.regs = s.regs := rfl
@[simp] theorem State.drawn_flt (s : State) : s.drawn.flt = s.flt := rfl
@[simp] theorem State.drawn_fifo (s : State) : s.drawn.fifo = s.fifo := rfl
@[simp] theorem State.drawn_cells (s : State) : s.drawn.cells = s.cells := rfl
@[simp] theorem State.drawn_sent (s : State) : s.drawn.sent = s.sent := rfl
@[simp] theorem State.drawn_mix (s : State) : s.drawn.mix = s.mix := rfl
@[simp] theorem State.drawn_sine0 (s : State) : s.drawn.sine0 = s.sine0 := rfl
@[simp] theorem State.drawn_voices (s : State) : s.drawn.voices = s.voices := rfl
@[simp] theorem State.drawn_lastStolen (s : State) : s.drawn.lastStolen = s.lastStolen := rfl
@[simp] theorem State.drawn_mem (s : State) : s.drawn.mem = s.mem := rfl

/-! ### `State.setVoice` -/

@[simp] theorem State.setVoice_cfg (s : State) (v : Nat) (x : Voice) : (s.setVoice v x).cfg = s.cfg := rfl
@[simp] theorem State.setVoice_seq (s : State) (v : Nat) (x : Voice) : (s.setVoice v x).seq = s.seq := rfl
@[simp] theorem State.setVoice_work (s : State) (v : Nat) (x : Voice) : (s.setVoice v x).work = s.work := rfl
@[simp] theorem State.setVoice_regs (s : State) (v : Nat) (x : Voice) : (s.setVoice v x).regs = s.regs := rfl
@[simp] theorem State.setVoice_flt (s : State) (v : Nat) (x : Voice) : (s.setVoice v x).flt = s.flt := rfl
@[simp] theorem State.setVoice_fifo (s : State) (v : Nat) (x : Voice) : (s.setVoice v x).fifo = s.fifo := rfl
@[simp] theorem State.setVoice_cells (s : State) (v : Nat) (x : Voice) : (s.setVoice v x).cells = s.cells := rfl
@[simp] theorem State.setVoice_sent (s : State) (v : Nat) (x : Voice) : (s.setVoice v x).sent = s.sent := rfl
@[simp] theorem State.setVoice_mix (s : State) (v : Nat) (x : Voice) : (s.setVoice v x).mix = s.mix := rfl
@[simp] theorem State.setVoice_sine0 (s : State) (v : Nat) (x : Voice) : (s.setVoice v x).sine0 = s.sine0 := rfl
@[simp] theorem State.setVoice_lastStolen (s : State) (v : Nat) (x : Voice) : (s.setVoice v x).lastStolen = s.lastStolen := rfl
@[simp] theorem State.setVoice_mem (s : State) (v : Nat) (x : Voice) : (s.setVoice v x).mem = s.mem := rfl
@[simp] theorem State.setVoice_port (s : State) (v : Nat) (x : Voice) : (s.setVoice v x).port = s.port := rfl

/-! ### `State.doFirst` -/

@[simp] theorem State.doFirst_cfg (s : State) (ops : List AudioOp) : (s.doFirst ops).cfg = s.cfg := rfl
@[simp] theorem State.doFirst_seq (s : State) (ops : List AudioOp) : (s.doFirst ops).seq = s.seq := rfl
@[simp] theorem State.doFirst_regs (s : State) (ops : List AudioOp) : (s.doFirst ops).regs = s.regs := rfl
@[simp] theorem State.doFirst_flt (s : State) (ops : List AudioOp) : (s.doFirst ops).flt = s.flt := rfl
@[simp] theorem State.doFirst_fifo (s : State) (ops : List AudioOp) : (s.doFirst ops).fifo = s.fifo := rfl
@[simp] theorem State.doFirst_cells (s : State) (ops : List AudioOp) : (s.doFirst ops).cells = s.cells := rfl
@[simp] theorem State.doFirst_sent (s : State) (ops : List AudioOp) : (s.doFirst ops).sent = s.sent := rfl
@[simp] theorem State.doFirst_mix (s : State) (ops : List AudioOp) : (s.doFirst ops).mix = s.mix := rfl
@[simp] theorem State.doFirst_sine0 (s : State) (ops : List AudioOp) : (s.doFirst ops).sine0 = s.sine0 := rfl
@[simp] theorem State.doFirst_voices (s : State) (ops : List AudioOp) : (s.doFirst ops).voices = s.voices := rfl
@[simp] theorem State.doFirst_lastStolen (s : State) (ops : List AudioOp) : (s.doFirst ops).lastStolen = s.lastStolen := rfl
@[simp] theorem State.doFirst_mem (s : State) (ops : List AudioOp) : (s.doFirst ops).mem = s.mem := rfl
@[simp] theorem State.doFirst_port (s : State) (ops : List AudioOp) : (s.doFirst ops).port = s.port := rfl

/-! ### `State.setTmp` -/

@[simp] theorem State.setTmp_cfg (s : State) (x : Word) : (s.setTmp x).cfg = s.cfg := rfl
@[simp] theorem State.setTmp_seq (s : State) (x : Word) : (s.setTmp x).seq = s.seq := rfl
@[simp] theorem State.setTmp_regs (s : State) (x : Word) : (s.setTmp x).regs = s.regs := rfl
@[simp] theorem State.setTmp_flt (s : State) (x : Word) : (s.setTmp x).flt = s.flt := rfl
@[simp] theorem State.setTmp_fifo (s : State) (x : Word) : (s.setTmp x).fifo = s.fifo := rfl
@[simp] theorem State.setTmp_cells (s : State) (x : Word) : (s.setTmp x).cells = s.cells := rfl
@[simp] theorem State.setTmp_sent (s : State) (x : Word) : (s.setTmp x).sent = s.sent := rfl
@[simp] theorem State.setTmp_mix (s : State) (x : Word) : (s.setTmp x).mix = s.mix := rfl
@[simp] theorem State.setTmp_sine0 (s : State) (x : Word) : (s.setTmp x).sine0 = s.sine0 := rfl
@[simp] theorem State.setTmp_voices (s : State) (x : Word) : (s.setTmp x).voices = s.voices := rfl
@[simp] theorem State.setTmp_lastStolen (s : State) (x : Word) : (s.setTmp x).lastStolen = s.lastStolen := rfl
@[simp] theorem State.setTmp_mem (s : State) (x : Word) : (s.setTmp x).mem = s.mem := rfl
@[simp] theorem State.setTmp_port (s : State) (x : Word) : (s.setTmp x).port = s.port := rfl

/-! ### `State.storeCell` -/

@[simp] theorem State.storeCell_cfg (s : State) (i : Nat) (x : Word) : (s.storeCell i x).cfg = s.cfg := rfl
@[simp] theorem State.storeCell_seq (s : State) (i : Nat) (x : Word) : (s.storeCell i x).seq = s.seq := rfl
@[simp] theorem State.storeCell_work (s : State) (i : Nat) (x : Word) : (s.storeCell i x).work = s.work := rfl
@[simp] theorem State.storeCell_regs (s : State) (i : Nat) (x : Word) : (s.storeCell i x).regs = s.regs := rfl
@[simp] theorem State.storeCell_flt (s : State) (i : Nat) (x : Word) : (s.storeCell i x).flt = s.flt := rfl
@[simp] theorem State.storeCell_fifo (s : State) (i : Nat) (x : Word) : (s.storeCell i x).fifo = s.fifo := rfl
@[simp] theorem State.storeCell_sent (s : State) (i : Nat) (x : Word) : (s.storeCell i x).sent = s.sent := rfl
@[simp] theorem State.storeCell_mix (s : State) (i : Nat) (x : Word) : (s.storeCell i x).mix = s.mix := rfl
@[simp] theorem State.storeCell_sine0 (s : State) (i : Nat) (x : Word) : (s.storeCell i x).sine0 = s.sine0 := rfl
@[simp] theorem State.storeCell_voices (s : State) (i : Nat) (x : Word) : (s.storeCell i x).voices = s.voices := rfl
@[simp] theorem State.storeCell_lastStolen (s : State) (i : Nat) (x : Word) : (s.storeCell i x).lastStolen = s.lastStolen := rfl
@[simp] theorem State.storeCell_mem (s : State) (i : Nat) (x : Word) : (s.storeCell i x).mem = s.mem := rfl
@[simp] theorem State.storeCell_port (s : State) (i : Nat) (x : Word) : (s.storeCell i x).port = s.port := rfl

/-! ### `State.storeOut` -/

@[simp] theorem State.storeOut_cfg (s : State) (b : Bool) (i : Nat) (w : Word) : (s.storeOut b i w).cfg = s.cfg := rfl
@[simp] theorem State.storeOut_seq (s : State) (b : Bool) (i : Nat) (w : Word) : (s.storeOut b i w).seq = s.seq := rfl
@[simp] theorem State.storeOut_regs (s : State) (b : Bool) (i : Nat) (w : Word) : (s.storeOut b i w).regs = s.regs := rfl
@[simp] theorem State.storeOut_flt (s : State) (b : Bool) (i : Nat) (w : Word) : (s.storeOut b i w).flt = s.flt := rfl
@[simp] theorem State.storeOut_fifo (s : State) (b : Bool) (i : Nat) (w : Word) : (s.storeOut b i w).fifo = s.fifo := rfl
@[simp] theorem State.storeOut_cells (s : State) (b : Bool) (i : Nat) (w : Word) : (s.storeOut b i w).cells = s.cells := rfl
@[simp] theorem State.storeOut_sent (s : State) (b : Bool) (i : Nat) (w : Word) : (s.storeOut b i w).sent = s.sent := rfl
@[simp] theorem State.storeOut_mix (s : State) (b : Bool) (i : Nat) (w : Word) : (s.storeOut b i w).mix = s.mix := rfl
@[simp] theorem State.storeOut_sine0 (s : State) (b : Bool) (i : Nat) (w : Word) : (s.storeOut b i w).sine0 = s.sine0 := rfl
@[simp] theorem State.storeOut_voices (s : State) (b : Bool) (i : Nat) (w : Word) : (s.storeOut b i w).voices = s.voices := rfl
@[simp] theorem State.storeOut_lastStolen (s : State) (b : Bool) (i : Nat) (w : Word) : (s.storeOut b i w).lastStolen = s.lastStolen := rfl
@[simp] theorem State.storeOut_port (s : State) (b : Bool) (i : Nat) (w : Word) : (s.storeOut b i w).port = s.port := rfl

/-! ### What the updates write -/

@[simp] theorem State.raise_sticky (s : State) (code : FaultCode) (info : BitVec 24) :
    (s.raise code info).flt.sticky = s.flt.sticky ||| code.sticky := rfl

@[simp] theorem State.raise_info (s : State) (code : FaultCode) (info : BitVec 24) :
    (s.raise code info).flt.info = if s.flt.valid then s.flt.info else faultRecord code info := rfl

@[simp] theorem State.setR_r (s : State) (v : Word) : (s.setR v).regs.r = v := rfl
@[simp] theorem State.setR_a (s : State) (v : Word) : (s.setR v).regs.a = s.regs.a := rfl
@[simp] theorem State.setR_b (s : State) (v : Word) : (s.setR v).regs.b = s.regs.b := rfl
@[simp] theorem State.setR_c (s : State) (v : Word) : (s.setR v).regs.c = s.regs.c := rfl
@[simp] theorem State.setR_d (s : State) (v : Word) : (s.setR v).regs.d = s.regs.d := rfl
@[simp] theorem State.drawn_draws (s : State) : s.drawn.port.draws = s.port.draws + 1 := rfl
@[simp] theorem State.doFirst_todo (s : State) (ops : List AudioOp) : (s.doFirst ops).work.todo = ops ++ s.work.todo := rfl
@[simp] theorem State.setTmp_tmp (s : State) (x : Word) : (s.setTmp x).work.tmp = x := rfl
@[simp] theorem State.setVoice_voices (s : State) (v : Nat) (x : Voice) : (s.setVoice v x).voices = s.voices.set v x := rfl
@[simp] theorem State.storeOut_mem (s : State) (b : Bool) (i : Nat) (w : Word) :
    (s.storeOut b i w).mem = s.mem.writeWord (outOffset b i) w := rfl

@[simp] theorem State.storeOut_todo (s : State) (b : Bool) (i : Nat) (w : Word) :
    (s.storeOut b i w).work.todo = s.work.todo := by
  simp only [State.storeOut]
  split <;> rfl

/-! ### Voices -/

/-- Reading a voice back after writing it. -/
theorem State.voice_setVoice_self (s : State) (v : Nat) (x : Voice) (h : v < s.voices.length) :
    (s.setVoice v x).voice v = x := by
  simp [State.voice, State.setVoice, List.getD, h]

/-- Writing one voice leaves every other alone. -/
theorem State.voice_setVoice_other (s : State) (v u : Nat) (x : Voice) (h : v ≠ u) :
    (s.setVoice v x).voice u = s.voice u := by
  simp [State.voice, State.setVoice, List.getD, h]

@[simp] theorem State.setVoice_length (s : State) (v : Nat) (x : Voice) :
    (s.setVoice v x).voices.length = s.voices.length := by
  simp [State.setVoice]

/-! ### Smoothers -/

@[simp] theorem State.setSm_cfg (s : State) (id : SmId) (m : Smoother) : (s.setSm id m).cfg = s.cfg := by cases id <;> rfl
@[simp] theorem State.setSm_seq (s : State) (id : SmId) (m : Smoother) : (s.setSm id m).seq = s.seq := by cases id <;> rfl
@[simp] theorem State.setSm_work (s : State) (id : SmId) (m : Smoother) : (s.setSm id m).work = s.work := by cases id <;> rfl
@[simp] theorem State.setSm_regs (s : State) (id : SmId) (m : Smoother) : (s.setSm id m).regs = s.regs := by cases id <;> rfl
@[simp] theorem State.setSm_flt (s : State) (id : SmId) (m : Smoother) : (s.setSm id m).flt = s.flt := by cases id <;> rfl
@[simp] theorem State.setSm_fifo (s : State) (id : SmId) (m : Smoother) : (s.setSm id m).fifo = s.fifo := by cases id <;> rfl
@[simp] theorem State.setSm_cells (s : State) (id : SmId) (m : Smoother) : (s.setSm id m).cells = s.cells := by cases id <;> rfl
@[simp] theorem State.setSm_sent (s : State) (id : SmId) (m : Smoother) : (s.setSm id m).sent = s.sent := by cases id <;> rfl
@[simp] theorem State.setSm_sine0 (s : State) (id : SmId) (m : Smoother) : (s.setSm id m).sine0 = s.sine0 := by cases id <;> rfl
@[simp] theorem State.setSm_lastStolen (s : State) (id : SmId) (m : Smoother) : (s.setSm id m).lastStolen = s.lastStolen := by cases id <;> rfl
@[simp] theorem State.setSm_mem (s : State) (id : SmId) (m : Smoother) : (s.setSm id m).mem = s.mem := by cases id <;> rfl
@[simp] theorem State.setSm_port (s : State) (id : SmId) (m : Smoother) : (s.setSm id m).port = s.port := by cases id <;> rfl

@[simp] theorem Mix.get_set_self (m : Mix) (g : GlobalSm) (x : Smoother) : (m.set g x).get g = x := by cases g <;> rfl

theorem Mix.get_set_other (m : Mix) (g h : GlobalSm) (x : Smoother) (hne : g ≠ h) : (m.set g x).get h = m.get h := by
  cases g <;> cases h <;> first | rfl | exact absurd rfl hne

@[simp] theorem Voice.getSm_setSm_self (x : Voice) (k : VoiceSm) (m : Smoother) : (x.setSm k m).getSm k = m := by
  cases k <;> rfl

theorem Voice.getSm_setSm_other (x : Voice) (k j : VoiceSm) (m : Smoother) (hne : k ≠ j) :
    (x.setSm k m).getSm j = x.getSm j := by
  cases k <;> cases j <;> first | rfl | exact absurd rfl hne

@[simp] theorem State.setSm_length (s : State) (id : SmId) (m : Smoother) :
    (s.setSm id m).voices.length = s.voices.length := by
  cases id <;> simp [State.setSm]

/-- Reading a smoother back after writing it; a voice's smoother exists only for a voice of the bank. -/
theorem State.sm_setSm_self (s : State) (id : SmId) (m : Smoother)
    (h : ∀ v k, id = .voice v k → v < s.voices.length) : (s.setSm id m).sm id = m := by
  cases id with
  | global g => simp [State.setSm, State.sm]
  | voice v k => simp [State.setSm, State.sm, State.voice_setVoice_self _ _ _ (h v k rfl)]

/-! ### Replies -/

@[simp] theorem State.setReply_cfg (s : State) (a : Agent) (x : Option Word) : (s.setReply a x).cfg = s.cfg := by cases a <;> rfl
@[simp] theorem State.setReply_seq (s : State) (a : Agent) (x : Option Word) : (s.setReply a x).seq = s.seq := by cases a <;> rfl
@[simp] theorem State.setReply_work (s : State) (a : Agent) (x : Option Word) : (s.setReply a x).work = s.work := by cases a <;> rfl
@[simp] theorem State.setReply_regs (s : State) (a : Agent) (x : Option Word) : (s.setReply a x).regs = s.regs := by cases a <;> rfl
@[simp] theorem State.setReply_flt (s : State) (a : Agent) (x : Option Word) : (s.setReply a x).flt = s.flt := by cases a <;> rfl
@[simp] theorem State.setReply_fifo (s : State) (a : Agent) (x : Option Word) : (s.setReply a x).fifo = s.fifo := by cases a <;> rfl
@[simp] theorem State.setReply_cells (s : State) (a : Agent) (x : Option Word) : (s.setReply a x).cells = s.cells := by cases a <;> rfl
@[simp] theorem State.setReply_sent (s : State) (a : Agent) (x : Option Word) : (s.setReply a x).sent = s.sent := by cases a <;> rfl
@[simp] theorem State.setReply_mix (s : State) (a : Agent) (x : Option Word) : (s.setReply a x).mix = s.mix := by cases a <;> rfl
@[simp] theorem State.setReply_sine0 (s : State) (a : Agent) (x : Option Word) : (s.setReply a x).sine0 = s.sine0 := by cases a <;> rfl
@[simp] theorem State.setReply_voices (s : State) (a : Agent) (x : Option Word) : (s.setReply a x).voices = s.voices := by cases a <;> rfl
@[simp] theorem State.setReply_lastStolen (s : State) (a : Agent) (x : Option Word) : (s.setReply a x).lastStolen = s.lastStolen := by cases a <;> rfl
@[simp] theorem State.setReply_mem (s : State) (a : Agent) (x : Option Word) : (s.setReply a x).mem = s.mem := by cases a <;> rfl

/-! ### `State.written` -/

@[simp] theorem State.written_cfg (s : State) (a : Agent) : (s.written a).cfg = s.cfg := by cases a <;> rfl
@[simp] theorem State.written_seq (s : State) (a : Agent) : (s.written a).seq = s.seq := by cases a <;> rfl
@[simp] theorem State.written_work (s : State) (a : Agent) : (s.written a).work = s.work := by cases a <;> rfl
@[simp] theorem State.written_regs (s : State) (a : Agent) : (s.written a).regs = s.regs := by cases a <;> rfl
@[simp] theorem State.written_flt (s : State) (a : Agent) : (s.written a).flt = s.flt := by cases a <;> rfl
@[simp] theorem State.written_fifo (s : State) (a : Agent) : (s.written a).fifo = s.fifo := by cases a <;> rfl
@[simp] theorem State.written_cells (s : State) (a : Agent) : (s.written a).cells = s.cells := by cases a <;> rfl
@[simp] theorem State.written_sent (s : State) (a : Agent) : (s.written a).sent = s.sent := by cases a <;> rfl
@[simp] theorem State.written_mix (s : State) (a : Agent) : (s.written a).mix = s.mix := by cases a <;> rfl
@[simp] theorem State.written_sine0 (s : State) (a : Agent) : (s.written a).sine0 = s.sine0 := by cases a <;> rfl
@[simp] theorem State.written_voices (s : State) (a : Agent) : (s.written a).voices = s.voices := by cases a <;> rfl
@[simp] theorem State.written_lastStolen (s : State) (a : Agent) : (s.written a).lastStolen = s.lastStolen := by cases a <;> rfl
@[simp] theorem State.written_mem (s : State) (a : Agent) : (s.written a).mem = s.mem := by cases a <;> rfl
@[simp] theorem State.written_draws (s : State) (a : Agent) : (s.written a).port.draws = s.port.draws + 1 := by
  cases a <;> rfl

@[simp] theorem State.setReply_draws (s : State) (a : Agent) (x : Option Word) :
    (s.setReply a x).port.draws = s.port.draws := by cases a <;> rfl

/-! ### Port accesses -/

/-- A read's reply changes no word a read returns (20_memory.md R78). -/
@[simp] theorem State.setReply_readOut (s : State) (a : Agent) (x : Option Word) (b : Bool) (i : Nat) :
    (s.setReply a x).readOut b i = s.readOut b i := by cases a <;> rfl

@[simp] theorem State.setReply_portRead (s : State) (a : Agent) (x : Option Word) (r : Region) :
    (s.setReply a x).portRead r = s.portRead r := by cases a <;> cases r <;> rfl

/-- All a denied access does (20_memory.md R72). -/
theorem State.deny_eq (s : State) (a : Agent) (dir : Dir) (info : BitVec 24) :
    s.deny a dir info = { s with flt := (s.raise .illegal info).flt, port := (s.deny a dir info).port } := by
  cases dir <;> cases a <;> rfl

/-- All a read can do: deliver the word of a region the agent may read, or record ILLEGAL. -/
theorem State.request_read (s : State) (a : Agent) (off : Nat) (d : Word) :
    s.request a .read off d = .next (if mayRead a (regionOf s.cfg off) then
      s.setReply a (some (s.portRead (regionOf s.cfg off))) else s.deny a .read (offsetInfo off)) := by
  simp only [State.request]
  split <;> rfl

/-! ### The checks of a UOP -/

/-- All a UOP with a unit can do: record ILLEGAL, record BUSY, or its own effect (60_exceptions.md R364). -/
theorem State.uop_cases (s t : State) (op unit : Nat) (admitted exclusive : Bool) (effect : State → State)
    (h : s.uop op unit admitted exclusive effect = .next t) :
    (admitted = false ∧ t = s.raise .illegal (uopInfo op unit)) ∨
    (admitted = true ∧ exclusive = true ∧ s.seq.busy = true ∧ t = s.raise .busy (uopInfo op unit)) ∨
    (admitted = true ∧ (exclusive = false ∨ s.seq.busy = false) ∧ t = effect s) := by
  simp only [State.uop, Host.Outcome.next.injEq] at h
  subst h
  cases admitted <;> cases exclusive <;> cases hb : s.seq.busy <;> simp

/-- An admitted UOP while no fill is in progress has its effect. -/
theorem State.uop_ready (s : State) (op unit : Nat) (exclusive : Bool) (effect : State → State)
    (h : s.seq.busy = false) : s.uop op unit true exclusive effect = .next (effect s) := by
  simp [State.uop, h]

/-- An admitted UOP that is not audio-exclusive has its effect during a fill too. -/
theorem State.uop_shared (s : State) (op unit : Nat) (effect : State → State) :
    s.uop op unit true false effect = .next (effect s) := by
  simp [State.uop]

end Sys2Proof.Machine
end

