-- ==== Sys2Proof/Laws/Memory.lean ====
section
/-! SUPPORT. The output memory: reads after writes, writes leave other bytes alone, and the canonical form is kept. -/

namespace Sys2Proof.Machine

/-- Every entry of a canonical list lies above a bound that its first entry lies above. -/
def Memory.above (n : Nat) (m : Memory) : Prop := ∀ c ∈ m, n < c.1

theorem Memory.wf_cons (c : Host.Cell) (m : Memory) :
    Memory.wf (c :: m) = true ↔ c.2 ≠ Memory.unlisted ∧ Memory.above c.1 m ∧ Memory.wf m = true := by
  induction m generalizing c with
  | nil => simp [Memory.wf, Memory.above]
  | cons d m ih =>
    simp only [Memory.wf, Bool.and_eq_true, bne_iff_ne, ne_eq, Memory.above, List.mem_cons, Nat.blt_eq]
    constructor
    · rintro ⟨⟨hc, hlt⟩, hwf⟩
      refine ⟨hc, ?_, hwf⟩
      rintro e (rfl | he)
      · exact hlt
      · exact Nat.lt_trans hlt (((ih d).1 hwf).2.1 e he)
    · rintro ⟨hc, hab, hwf⟩
      exact ⟨⟨hc, hab d (Or.inl rfl)⟩, hwf⟩

/-- A byte below every entry reads as an unlisted one. -/
theorem Memory.readByte_above (m : Memory) (n a : Nat) (h : Memory.above n m) (ha : a ≤ n) :
    Memory.readByte m a = Memory.unlisted := by
  induction m with
  | nil => rfl
  | cons c m ih =>
    have hc := h c (by simp)
    rw [Memory.readByte, if_neg (by omega)]
    exact ih fun e he => h e (by simp [he])

theorem Memory.above_writeByte (m : Memory) (n a : Nat) (v : Byte) (h : Memory.above n m) (ha : n < a) :
    Memory.above n (Memory.writeByte m a v) := by
  induction m with
  | nil =>
    unfold Memory.writeByte
    split <;> simp [Memory.above, ha]
  | cons c m ih =>
    have hc := h c (by simp)
    have hm : Memory.above n m := fun e he => h e (by simp [he])
    unfold Memory.writeByte
    intro e he
    split at he
    · split at he
      · exact h e he
      · rcases List.mem_cons.1 he with rfl | he
        · exact ha
        · exact h e he
    · split at he
      · split at he
        · exact hm e he
        · rcases List.mem_cons.1 he with rfl | he
          · exact ha
          · exact hm e he
      · rcases List.mem_cons.1 he with rfl | he
        · exact hc
        · exact ih hm e he

/-- A store keeps the canonical form. -/
theorem Memory.wf_writeByte (m : Memory) (a : Nat) (v : Byte) (h : m.wf = true) : (m.writeByte a v).wf = true := by
  induction m with
  | nil =>
    unfold Memory.writeByte
    split
    · rfl
    · rename_i hv
      simp [Memory.wf, hv]
  | cons c m ih =>
    obtain ⟨hc, hab, hwf⟩ := (Memory.wf_cons c m).1 h
    unfold Memory.writeByte
    split
    · rename_i hlt
      split
      · exact h
      · rename_i hv
        refine (Memory.wf_cons _ _).2 ⟨hv, ?_, h⟩
        rintro e he
        rcases List.mem_cons.1 he with rfl | he
        · exact hlt
        · exact Nat.lt_trans hlt (hab e he)
    · split
      · rename_i heq
        split
        · exact hwf
        · rename_i hv
          exact (Memory.wf_cons _ _).2 ⟨hv, by simpa [heq] using hab, hwf⟩
      · rename_i hnlt hne
        exact (Memory.wf_cons _ _).2 ⟨hc, Memory.above_writeByte m c.1 a v hab (by omega), ih hwf⟩

/-- A read of any byte after a store. -/
theorem Memory.readByte_writeByte (m : Memory) (a b : Nat) (v : Byte) (h : m.wf = true) :
    (m.writeByte a v).readByte b = if b = a then v else m.readByte b := by
  induction m with
  | nil =>
    unfold Memory.writeByte
    split
    · rename_i hv
      simp [Memory.readByte, hv]
    · simp only [Memory.readByte, eq_comm]
  | cons c m ih =>
    obtain ⟨hc, hab, hwf⟩ := (Memory.wf_cons c m).1 h
    unfold Memory.writeByte
    split
    · rename_i hlt
      split
      · rename_i hv
        by_cases hb : b = a
        · subst hb
          rw [if_pos rfl, hv, Memory.readByte, if_neg (by omega)]
          exact Memory.readByte_above m c.1 b hab (by omega)
        · rw [if_neg hb]
      · simp only [Memory.readByte, eq_comm]
    · split
      · rename_i heq
        split
        · rename_i hv
          by_cases hb : b = a
          · subst hb
            rw [if_pos rfl, hv]
            exact Memory.readByte_above m c.1 b hab (by omega)
          · rw [if_neg hb, Memory.readByte, if_neg (by omega)]
        · by_cases hb : b = a
          · subst hb; simp [Memory.readByte]
          · rw [if_neg hb, Memory.readByte, if_neg (by simpa [eq_comm] using hb), Memory.readByte, if_neg (by omega)]
      · by_cases hb : c.1 = b
        · rw [Memory.readByte, if_pos hb, if_neg (by omega), Memory.readByte, if_pos hb]
        · rw [Memory.readByte, if_neg hb, ih hwf, Memory.readByte, if_neg hb]

/-- A word store keeps the canonical form. -/
theorem Memory.wf_writeWord (m : Memory) (a : Nat) (w : Word) (h : m.wf = true) : (m.writeWord a w).wf = true := by
  simp only [Memory.writeWord]
  exact Memory.wf_writeByte _ _ _ (Memory.wf_writeByte _ _ _ (Memory.wf_writeByte _ _ _ (Memory.wf_writeByte _ _ _ h)))

/-- A word store leaves every other byte alone. -/
theorem Memory.readByte_writeWord_other (m : Memory) (a b : Nat) (w : Word) (h : m.wf = true)
    (hb : b < a ∨ a + 4 ≤ b) : (m.writeWord a w).readByte b = m.readByte b := by
  have h1 := Memory.wf_writeByte m a (byteOf w 0) h
  have h2 := Memory.wf_writeByte _ (a + 1) (byteOf w 1) h1
  have h3 := Memory.wf_writeByte _ (a + 2) (byteOf w 2) h2
  simp only [Memory.writeWord]
  rw [Memory.readByte_writeByte _ _ _ _ h3, if_neg (by omega), Memory.readByte_writeByte _ _ _ _ h2, if_neg (by omega),
    Memory.readByte_writeByte _ _ _ _ h1, if_neg (by omega), Memory.readByte_writeByte _ _ _ _ h, if_neg (by omega)]

/-- Storing an output word keeps the canonical form. -/
theorem State.storeOut_wf (s : State) (b : Bool) (i : Nat) (w : Word) (h : MemoryInv s) : MemoryInv (s.storeOut b i w) :=
  Memory.wf_writeWord _ _ _ h

/-- Reset memory has the canonical form. -/
theorem reset_memory_wf : State.reset.mem.wf = true := rfl

end Sys2Proof.Machine
end

