-- ==== Sys2Proof/Laws/PerInstr.lean ====
section
/-! SUPPORT. Family RoundTrip: decoding the word of a well-formed command, in the command's form, gives the command back. -/

namespace Sys2Proof.Laws.RoundTrip

/-- Decoding the encoded command gives it back. -/
def Statement (i : Instr) : Prop := i.wellFormed = true → decode (formOf i) (encode i) = .ok i

/-! ### The fields of a UOP word -/

theorem toNat_uopWord (op unit : Nat) (ho : op < 256) (hu : unit < 256) :
    (uopWord op unit).toNat = op * 2 ^ 24 + unit * 2 ^ 16 := by
  rw [uopWord, BitVec.toNat_ofNat]
  omega

theorem decodeUop_uopWord (op unit : Nat) (ho : op < 256) (hu : unit < 256) (hs : op ≠ 0x68) :
    decodeUop (uopWord op unit) = decodeOp (uopWord op unit) op unit := by
  have h := toNat_uopWord op unit ho hu
  have h1 : bits (uopWord op unit) 31 24 = op := by
    simp only [bits, h]; omega
  have h2 : bits (uopWord op unit) 15 0 = 0 := by
    simp only [bits, h]; omega
  have h3 : bits (uopWord op unit) 23 16 = unit := by
    simp only [bits, h]; omega
  simp [decodeUop, h1, h2, h3, hs]

/-! ### Units -/

theorem decodeOsc_encodeOsc (v : Nat) (k : Kind) (h : oscFits v k = true) :
    decodeOsc (encodeOsc v k) = some (v, k) ∧ encodeOsc v k < 256 := by
  simp only [oscFits, Bool.and_eq_true, Nat.blt_eq, Bool.or_eq_true, bne_iff_ne, beq_iff_eq, ne_eq] at h
  obtain ⟨hv, hk⟩ := h
  cases k <;> simp only [encodeOsc, encodeKind, decodeOsc] <;>
    first
    | (have hm : (8 * v + 0) % 8 = 0 := by omega
       have hd : (8 * v + 0) / 8 = v := by omega
       simp only [hm, hd, decodeKind]
       exact ⟨trivial, by omega⟩)
    | (have hm : (8 * v + 1) % 8 = 1 := by omega
       have hd : (8 * v + 1) / 8 = v := by omega
       simp only [hm, hd, decodeKind]
       exact ⟨trivial, by omega⟩)
    | (have hm : (8 * v + 2) % 8 = 2 := by omega
       have hd : (8 * v + 2) / 8 = v := by omega
       simp only [hm, hd, decodeKind]
       exact ⟨trivial, by omega⟩)
    | (have hm : (8 * v + 3) % 8 = 3 := by omega
       have hd : (8 * v + 3) / 8 = v := by omega
       simp only [hm, hd, decodeKind]
       exact ⟨trivial, by omega⟩)
    | (have h0 : v = 0 := by simpa using hk
       subst h0
       decide)

theorem decodeSm_encodeSm (id : SmId) (h : id.fits = true) : decodeSm (encodeSm id) = some id ∧ encodeSm id < 256 := by
  cases id with
  | global g => cases g <;> decide
  | voice v k =>
    simp only [SmId.fits, Nat.blt_eq] at h
    revert h
    revert v
    cases k <;> decide


theorem nop : Statement .nop := by
  intro _
  decide

theorem add : Statement .add := by
  intro _
  decide

theorem sub : Statement .sub := by
  intro _
  decide

theorem mul : Statement .mul := by
  intro _
  decide

theorem div : Statement .div := by
  intro _
  decide

theorem clamp : Statement .clamp := by
  intro _
  decide

theorem addclamp : Statement .addclamp := by
  intro _
  decide

theorem shra : Statement .shra := by
  intro _
  decide

theorem fromint : Statement .fromint := by
  intro _
  decide

theorem toint : Statement .toint := by
  intro _
  decide

theorem fromfloat : Statement .fromfloat := by
  intro _
  decide

theorem tofloat : Statement .tofloat := by
  intro _
  decide

theorem sineLut : Statement .sineLut := by
  intro _
  decide

theorem ladderG : Statement .ladderG := by
  intro _
  decide

theorem ladderRes : Statement .ladderRes := by
  intro _
  decide

theorem cutoffMod : Statement .cutoffMod := by
  intro _
  decide

theorem vmSelect : Statement .vmSelect := by
  intro _
  decide

theorem sineNext : Statement .sineNext := by
  intro _
  decide

theorem oscReset (v : Nat) (k : Kind) : Statement (.oscReset v k) := by
  intro h
  obtain ⟨hd, hu⟩ := decodeOsc_encodeOsc v k h
  simp only [formOf, encode, decode, decodeUop_uopWord 0x20 _ (by decide) hu (by decide), decodeOp, oscUop, hd]

theorem oscSetinc (v : Nat) (k : Kind) : Statement (.oscSetinc v k) := by
  intro h
  obtain ⟨hd, hu⟩ := decodeOsc_encodeOsc v k h
  simp only [formOf, encode, decode, decodeUop_uopWord 0x21 _ (by decide) hu (by decide), decodeOp, oscUop, hd]

theorem oscRead (v : Nat) (k : Kind) : Statement (.oscRead v k) := by
  intro h
  obtain ⟨hd, hu⟩ := decodeOsc_encodeOsc v k h
  simp only [formOf, encode, decode, decodeUop_uopWord 0x24 _ (by decide) hu (by decide), decodeOp, oscUop, hd]

theorem oscSetfreq (v : Nat) (k : Kind) : Statement (.oscSetfreq v k) := by
  intro h
  obtain ⟨hd, hu⟩ := decodeOsc_encodeOsc v k h
  simp only [formOf, encode, decode, decodeUop_uopWord 0x25 _ (by decide) hu (by decide), decodeOp, oscUop, hd]

theorem sawNext (v : Nat) : Statement (.sawNext v) := by
  intro h
  obtain ⟨hd, hu⟩ := decodeOsc_encodeOsc v .saw (by simpa [oscFits, Instr.wellFormed] using h)
  simp only [formOf, encode, decode, decodeUop_uopWord 0x22 _ (by decide) hu (by decide), decodeOp, oscUop, hd, oscNextUop]

theorem pulseNext (v : Nat) : Statement (.pulseNext v) := by
  intro h
  obtain ⟨hd, hu⟩ := decodeOsc_encodeOsc v .pulse (by simpa [oscFits, Instr.wellFormed] using h)
  simp only [formOf, encode, decode, decodeUop_uopWord 0x22 _ (by decide) hu (by decide), decodeOp, oscUop, hd, oscNextUop]

theorem subNext (v : Nat) : Statement (.subNext v) := by
  intro h
  obtain ⟨hd, hu⟩ := decodeOsc_encodeOsc v .sub (by simpa [oscFits, Instr.wellFormed] using h)
  simp only [formOf, encode, decode, decodeUop_uopWord 0x22 _ (by decide) hu (by decide), decodeOp, oscUop, hd, oscNextUop]

theorem noiseNext (v : Nat) : Statement (.noiseNext v) := by
  intro h
  obtain ⟨hd, hu⟩ := decodeOsc_encodeOsc v .noise (by simpa [oscFits, Instr.wellFormed] using h)
  simp only [formOf, encode, decode, decodeUop_uopWord 0x22 _ (by decide) hu (by decide), decodeOp, oscUop, hd, oscNextUop]

theorem pulseSetw (v : Nat) : Statement (.pulseSetw v) := by
  intro h
  have hv : v < 32 := by simpa [Instr.wellFormed] using h
  have hu : encodeOsc v .pulse < 256 := by simp only [encodeOsc, encodeKind]; omega
  have hm : encodeOsc v .pulse % 8 = 1 := by simp only [encodeOsc, encodeKind]; omega
  have hd : encodeOsc v .pulse / 8 = v := by simp only [encodeOsc, encodeKind]; omega
  simp only [formOf, encode, decode, decodeUop_uopWord 0x23 _ (by decide) hu (by decide), decodeOp, hm, hd, if_true]

theorem smReset (id : SmId) : Statement (.smReset id) := by
  intro h
  obtain ⟨hd, hu⟩ := decodeSm_encodeSm id h
  simp only [formOf, encode, decode, decodeUop_uopWord 0x30 _ (by decide) hu (by decide), decodeOp, smUop, hd]

theorem smSetvalue (id : SmId) : Statement (.smSetvalue id) := by
  intro h
  obtain ⟨hd, hu⟩ := decodeSm_encodeSm id h
  simp only [formOf, encode, decode, decodeUop_uopWord 0x31 _ (by decide) hu (by decide), decodeOp, smUop, hd]

theorem smSettarget (id : SmId) : Statement (.smSettarget id) := by
  intro h
  obtain ⟨hd, hu⟩ := decodeSm_encodeSm id h
  simp only [formOf, encode, decode, decodeUop_uopWord 0x32 _ (by decide) hu (by decide), decodeOp, smUop, hd]

theorem smNext (id : SmId) : Statement (.smNext id) := by
  intro h
  obtain ⟨hd, hu⟩ := decodeSm_encodeSm id h
  simp only [formOf, encode, decode, decodeUop_uopWord 0x33 _ (by decide) hu (by decide), decodeOp, smUop, hd]

theorem smRead (id : SmId) : Statement (.smRead id) := by
  intro h
  obtain ⟨hd, hu⟩ := decodeSm_encodeSm id h
  simp only [formOf, encode, decode, decodeUop_uopWord 0x34 _ (by decide) hu (by decide), decodeOp, smUop, hd]

theorem paramSet (i : Fin 12) : Statement (.paramSet i) := by
  unfold Statement
  revert i
  decide

theorem paramSetn (i : Fin 12) : Statement (.paramSetn i) := by
  unfold Statement
  revert i
  decide

theorem paramGet (i : Fin 12) : Statement (.paramGet i) := by
  unfold Statement
  revert i
  decide

theorem paramGetn (i : Fin 12) : Statement (.paramGetn i) := by
  unfold Statement
  revert i
  decide

theorem envNoteOn (v : Nat) : Statement (.envNoteOn v) := by
  intro h
  have hv : v < 256 := by simpa [Instr.wellFormed, voiceFits] using h
  simp only [formOf, encode, decode, decodeUop_uopWord 0x50 _ (by decide) hv (by decide), decodeOp]

theorem envNoteOff (v : Nat) : Statement (.envNoteOff v) := by
  intro h
  have hv : v < 256 := by simpa [Instr.wellFormed, voiceFits] using h
  simp only [formOf, encode, decode, decodeUop_uopWord 0x51 _ (by decide) hv (by decide), decodeOp]

theorem envTick (v : Nat) : Statement (.envTick v) := by
  intro h
  have hv : v < 256 := by simpa [Instr.wellFormed, voiceFits] using h
  simp only [formOf, encode, decode, decodeUop_uopWord 0x52 _ (by decide) hv (by decide), decodeOp]

theorem envRead (v : Nat) : Statement (.envRead v) := by
  intro h
  have hv : v < 256 := by simpa [Instr.wellFormed, voiceFits] using h
  simp only [formOf, encode, decode, decodeUop_uopWord 0x53 _ (by decide) hv (by decide), decodeOp]

theorem envLevel (v : Nat) : Statement (.envLevel v) := by
  intro h
  have hv : v < 256 := by simpa [Instr.wellFormed, voiceFits] using h
  simp only [formOf, encode, decode, decodeUop_uopWord 0x54 _ (by decide) hv (by decide), decodeOp]

theorem ladderStep (v : Nat) : Statement (.ladderStep v) := by
  intro h
  have hv : v < 256 := by simpa [Instr.wellFormed, voiceFits] using h
  simp only [formOf, encode, decode, decodeUop_uopWord 0x60 _ (by decide) hv (by decide), decodeOp]

theorem ladderRead (v : Nat) : Statement (.ladderRead v) := by
  intro h
  have hv : v < 256 := by simpa [Instr.wellFormed, voiceFits] using h
  simp only [formOf, encode, decode, decodeUop_uopWord 0x64 _ (by decide) hv (by decide), decodeOp]

theorem voiceNoteOn (v : Nat) : Statement (.voiceNoteOn v) := by
  intro h
  have hv : v < 256 := by simpa [Instr.wellFormed, voiceFits] using h
  simp only [formOf, encode, decode, decodeUop_uopWord 0x70 _ (by decide) hv (by decide), decodeOp]

theorem voiceNoteOff (v : Nat) : Statement (.voiceNoteOff v) := by
  intro h
  have hv : v < 256 := by simpa [Instr.wellFormed, voiceFits] using h
  simp only [formOf, encode, decode, decodeUop_uopWord 0x71 _ (by decide) hv (by decide), decodeOp]

theorem voiceRender (v : Nat) : Statement (.voiceRender v) := by
  intro h
  have hv : v < 256 := by simpa [Instr.wellFormed, voiceFits] using h
  simp only [formOf, encode, decode, decodeUop_uopWord 0x72 _ (by decide) hv (by decide), decodeOp]

theorem voiceRead (v : Nat) : Statement (.voiceRead v) := by
  intro h
  have hv : v < 256 := by simpa [Instr.wellFormed, voiceFits] using h
  simp only [formOf, encode, decode, decodeUop_uopWord 0x73 _ (by decide) hv (by decide), decodeOp]

theorem svfStep (low : BitVec 24) : Statement (.svfStep low) := by
  intro _
  have hn : ((0x68#8 : BitVec 8) ++ low).toNat = 0x68 * 2 ^ 24 + low.toNat := by
    rw [BitVec.toNat_append, ← Nat.shiftLeft_add_eq_or_of_lt low.isLt]
    rfl
  have hl := low.isLt
  have h1 : bits ((0x68#8 : BitVec 8) ++ low) 31 24 = 0x68 := by
    simp only [bits, hn]; omega
  have h2 : bits ((0x68#8 : BitVec 8) ++ low) 23 0 = low.toNat := by
    simp only [bits, hn]; omega
  simp [formOf, encode, decode, decodeUop, h1, h2]

theorem illegalUop (w : Word) : Statement (.illegalUop w) := by
  intro h
  have hw : decodeUop w = .illegalUop w := by simpa [Instr.wellFormed] using h
  simp only [formOf, encode, decode, hw]

/-! ### Packets -/

theorem toNat_evtWord (cmd d1 d2 rsv : Byte) :
    (evtWord cmd d1 d2 rsv).toNat = cmd.toNat * 2 ^ 24 + d1.toNat * 2 ^ 16 + d2.toNat * 2 ^ 8 + rsv.toNat := by
  simp only [evtWord, BitVec.toNat_append]
  rw [← Nat.shiftLeft_add_eq_or_of_lt d1.isLt, ← Nat.shiftLeft_add_eq_or_of_lt d2.isLt, ← Nat.shiftLeft_add_eq_or_of_lt rsv.isLt]
  simp only [Nat.shiftLeft_eq]
  omega

theorem evt_fields (cmd d1 d2 rsv : Byte) :
    bits (evtWord cmd d1 d2 rsv) 31 24 = cmd.toNat ∧ bits (evtWord cmd d1 d2 rsv) 23 16 = d1.toNat ∧
      bits (evtWord cmd d1 d2 rsv) 15 8 = d2.toNat ∧ bits (evtWord cmd d1 d2 rsv) 7 0 = rsv.toNat := by
  have h := toNat_evtWord cmd d1 d2 rsv
  have h1 := cmd.isLt; have h2 := d1.isLt; have h3 := d2.isLt; have h4 := rsv.isLt
  simp only [bits, h]
  refine ⟨?_, ?_, ?_, ?_⟩ <;> omega

theorem decodeEvt_evtWord (cmd d1 d2 rsv : Byte) :
    decodeEvt (evtWord cmd d1 d2 rsv) =
      if cmd.toNat = 0x90 ∧ d2.toNat ≠ 0 then .evtNoteOn d1 d2 rsv
      else if cmd.toNat = 0x90 then .evtNoteOnV0 d1 rsv
      else if cmd.toNat = 0x80 then .evtNoteOff d1 d2 rsv
      else if cmd.toNat = 0xB0 ∧ d1.toNat = 123 then .evtAllNotesOff d2 rsv
      else if cmd.toNat = 0xB0 then .evtCcIgnored d1 d2 rsv
      else .evtOtherIgnored cmd d1 d2 rsv := by
  obtain ⟨e1, e2, e3, e4⟩ := evt_fields cmd d1 d2 rsv
  simp only [decodeEvt, e1, e2, e3, e4, BitVec.ofNat_toNat, BitVec.setWidth_eq]

theorem byte_toNat_ne (a : Byte) (n : Nat) (h : a ≠ BitVec.ofNat 8 n) (hn : n < 256) : a.toNat ≠ n := by
  intro he
  exact h (BitVec.eq_of_toNat_eq (by rw [he, BitVec.toNat_ofNat]; omega))

theorem evtNoteOn (d1 d2 rsv : Byte) : Statement (.evtNoteOn d1 d2 rsv) := by
  intro h
  have hd : d2.toNat ≠ 0 := byte_toNat_ne d2 0 (by simpa [Instr.wellFormed] using h) (by decide)
  simp only [formOf, encode, decode, decodeEvt_evtWord]
  simp [hd]

theorem evtNoteOnV0 (d1 rsv : Byte) : Statement (.evtNoteOnV0 d1 rsv) := by
  intro _
  simp only [formOf, encode, decode, decodeEvt_evtWord]
  simp

theorem evtNoteOff (d1 d2 rsv : Byte) : Statement (.evtNoteOff d1 d2 rsv) := by
  intro _
  simp only [formOf, encode, decode, decodeEvt_evtWord]
  simp

theorem evtAllNotesOff (d2 rsv : Byte) : Statement (.evtAllNotesOff d2 rsv) := by
  intro _
  simp only [formOf, encode, decode, decodeEvt_evtWord]
  simp

theorem evtCcIgnored (d1 d2 rsv : Byte) : Statement (.evtCcIgnored d1 d2 rsv) := by
  intro h
  have hd : d1.toNat ≠ 123 := byte_toNat_ne d1 123 (by simpa [Instr.wellFormed] using h) (by decide)
  simp only [formOf, encode, decode, decodeEvt_evtWord]
  simp [hd]

theorem evtOtherIgnored (cmd d1 d2 rsv : Byte) : Statement (.evtOtherIgnored cmd d1 d2 rsv) := by
  intro h
  simp only [Instr.wellFormed, Bool.and_eq_true, bne_iff_ne, ne_eq] at h
  have h80 := byte_toNat_ne cmd 0x80 h.1.1 (by decide)
  have h90 := byte_toNat_ne cmd 0x90 h.1.2 (by decide)
  have hb0 := byte_toNat_ne cmd 0xB0 h.2 (by decide)
  simp only [formOf, encode, decode, decodeEvt_evtWord]
  simp [h80, h90, hb0]

/-! ### Port writes -/

theorem reset : Statement .reset := by
  intro _
  decide

theorem fill (b : Bool) : Statement (.fill b) := by
  unfold Statement
  cases b <;> decide

theorem evtPush (w : Word) : Statement (.evtPush w) := fun _ => rfl

theorem uopIssue (w : Word) : Statement (.uopIssue w) := fun _ => rfl

end Sys2Proof.Laws.RoundTrip
end

