-- ==== Sys2Proof/Tests/Slice0.lean ====
section
/-! SUPPORT. The model's own tests. Every expected result is a vector, an example or a table entry of spec/: its place
stands in the test's comment. The second half gives, for every statement with hypotheses, a state and operands that meet
them. -/

namespace Sys2Proof.Tests

open Sys2Proof Sys2Proof.Machine

/-- The outcome is a next state with the property. -/
def okWith (o : Host.Outcome State Fault Refusal) (p : State → Bool) : Bool :=
  match o with
  | .next t => p t
  | .fault _ => false
  | .refused _ => false

/-- The next state of an outcome that has one. -/
def after (o : Host.Outcome State Fault Refusal) : State :=
  match o with
  | .next t => t
  | .fault _ => State.reset
  | .refused _ => State.reset

theorem eq_after (o : Host.Outcome State Fault Refusal) (h : okWith o (fun _ => true) = true) : o = .next (after o) := by
  cases o with
  | next t => rfl
  | fault f => cases h
  | refused f => cases h

/-- The reset state with the operand registers set. -/
def operands (a b c d : Word) : State := { State.reset with regs := ⟨a, b, c, d, 0⟩ }

/-- The reset state with one voice changed. -/
def withVoice (v : Nat) (f : Voice → Voice) : State := State.reset.setVoice v (f (Voice.reset Cfg.default))

/-- A state in the middle of a fill. -/
def filling : State := { State.reset with seq := ⟨true, false, .frames, 3, true⟩ }

/-! ### Well-formedness refuses an ill-formed term of every check -/

theorem test_wellFormed_oscVoice : (Instr.oscReset 32 .saw).wellFormed = false := by decide
theorem test_wellFormed_oscSine : (Instr.oscRead 1 .sine).wellFormed = false := by decide
theorem test_wellFormed_oscNext : (Instr.sawNext 32).wellFormed = false ∧ (Instr.pulseSetw 32).wellFormed = false := by decide
theorem test_wellFormed_smoother : (Instr.smNext (.voice 31 .rel)).wellFormed = false := by decide
theorem test_wellFormed_voice : (Instr.envTick 256).wellFormed = false ∧ (Instr.voiceRead 256).wellFormed = false := by decide
theorem test_wellFormed_ladder : (Instr.ladderStep 256).wellFormed = false := by decide
theorem test_wellFormed_illegalUop : (Instr.illegalUop 0x01000000).wellFormed = false := by decide
theorem test_wellFormed_noteOn : (Instr.evtNoteOn 60 0 0).wellFormed = false := by decide
theorem test_wellFormed_cc : (Instr.evtCcIgnored 123 0 0).wellFormed = false := by decide
theorem test_wellFormed_other : (Instr.evtOtherIgnored 0x80 60 0 0).wellFormed = false ∧
    (Instr.evtOtherIgnored 0x90 60 0 0).wellFormed = false ∧ (Instr.evtOtherIgnored 0xB0 60 0 0).wellFormed = false := by decide

/-! ### Decoding: each word is written field by field from 30_encoding.md R110, R113, R115, R116 and R119 -/

/-- OP 0x00 to 0x0B, UNIT 0, RSV 0. -/
theorem test_decode_arithmetic :
    [0x00000000, 0x01000000, 0x02000000, 0x03000000, 0x04000000, 0x05000000, 0x06000000, 0x07000000,
      0x08000000, 0x09000000, 0x0A000000, 0x0B000000].map decodeUop =
    [.nop, .add, .sub, .mul, .div, .clamp, .addclamp, .shra, .fromint, .toint, .fromfloat, .tofloat] := by decide

/-- OP 0x20 to 0x25, UNIT = 8 v + k; OP 0x28. -/
theorem test_decode_oscillators :
    [0x20000000, 0x20180000, 0x21090000, 0x22000000, 0x22110000, 0x22020000, 0x221B0000, 0x22040000, 0x23010000, 0x23390000,
      0x24010000, 0x24040000, 0x25020000, 0x25030000, 0x28000000].map decodeUop =
    [.oscReset 0 .saw, .oscReset 3 .saw, .oscSetinc 1 .pulse, .sawNext 0, .pulseNext 2, .subNext 0, .noiseNext 3, .sineNext,
      .pulseSetw 0, .pulseSetw 7, .oscRead 0 .pulse, .oscRead 0 .sine, .oscSetfreq 0 .sub, .oscSetfreq 0 .noise,
      .sineLut] := by decide

/-- OP 0x30 to 0x34: ids 0 to 5 and 8 + 8 v + 0 to 4 (10_state.md R32). -/
theorem test_decode_smoothers :
    [0x30010000, 0x31000000, 0x32050000, 0x33030000, 0x34040000, 0x34020000, 0x30080000, 0x31090000, 0x320A0000, 0x33130000,
      0x34240000].map decodeUop =
    [.smReset (.global .pulseLvl), .smSetvalue (.global .sawLvl), .smSettarget (.global .masterVol),
      .smNext (.global .noiseLvl), .smRead (.global .pulseW), .smRead (.global .subLvl), .smReset (.voice 0 .vel),
      .smSetvalue (.voice 0 .sus), .smSettarget (.voice 0 .att), .smNext (.voice 1 .dec), .smRead (.voice 3 .rel)] := by decide

/-- OP 0x40 to 0x43, UNIT a parameter index. -/
theorem test_decode_parameters :
    [0x40000000, 0x41090000, 0x42030000, 0x430B0000].map decodeUop =
    [.paramSet 0, .paramSetn 9, .paramGet 3, .paramGetn 11] := by decide

/-- OP 0x50 to 0x54, UNIT a voice. -/
theorem test_decode_envelope :
    [0x50000000, 0x51010000, 0x52020000, 0x53030000, 0x54070000].map decodeUop =
    [.envNoteOn 0, .envNoteOff 1, .envTick 2, .envRead 3, .envLevel 7] := by decide

/-- OP 0x60 to 0x64 and 0x68. -/
theorem test_decode_ladder :
    [0x60020000, 0x61000000, 0x62000000, 0x63000000, 0x64010000, 0x68000000, 0x68123456].map decodeUop =
    [.ladderStep 2, .ladderG, .ladderRes, .cutoffMod, .ladderRead 1, .svfStep 0, .svfStep 0x123456] := by decide

/-- OP 0x70 to 0x73 and 0x78. -/
theorem test_decode_voices :
    [0x70000000, 0x71020000, 0x72010000, 0x73030000, 0x78000000].map decodeUop =
    [.voiceNoteOn 0, .voiceNoteOff 2, .voiceRender 1, .voiceRead 3, .vmSelect] := by decide

/-- A unit or a reserved field its class does not admit, and unassigned opcodes (95_test_vectors.md 2.1 to 2.9). -/
theorem test_decode_illegal :
    ([0x00010000, 0x00000001, 0x220C0000, 0x22050000, 0x23080000, 0x33060000, 0x330D0000, 0x420C0000, 0x28010000, 0x78010000,
      0x0C000000, 0xFF000000].all fun w => decodeUop w == .illegalUop w) = true := by decide

/-- `CMD`, `D1`, `D2`, `RSV` (95_test_vectors.md 2.9). -/
theorem test_decode_events :
    [0x903C6400, 0x903C0000, 0x803C4000, 0xB07B0000, 0xB04A4000, 0x913C6400, 0x903C64FF].map decodeEvt =
    [.evtNoteOn 60 100 0, .evtNoteOnV0 60 0, .evtNoteOff 60 64 0, .evtAllNotesOff 0 0, .evtCcIgnored 74 64 0,
      .evtOtherIgnored 0x91 60 100 0, .evtNoteOn 60 100 0xFF] := by decide

/-- The port's form decides (30_encoding.md R120). -/
theorem test_decode_ports :
    [decode .ctrl 1, decode .ctrl 0, decode .ctrl 2, decode .fill 0, decode .fill 1, decode .fill 2, decode .push 0x903C6400,
      decode .cmd 0x01000000] =
    [.ok .reset, .error .ctrlZero, .error .ctrlReserved, .ok (.fill false), .ok (.fill true), .error .fillReserved,
      .ok (.evtPush 0x903C6400), .ok (.uopIssue 0x01000000)] := by decide

/-- The words without a port (log 1). -/
theorem test_decode_tableWord :
    [decodeTableWord 32 1, decodeTableWord 32 0x04000000, decodeTableWord 32 0x803C0000, decodeTableWord 32 0x01000001,
      decodeTableWord 64 0x04000000, decodeTableWord 32 (2 ^ 32)] =
    [some .reset, some .div, some (.evtNoteOff 60 0 0), some (.illegalUop 0x01000001), none, none] := by decide

/-! ### Single steps: 95_test_vectors.md part 2, and the examples of the rules named -/

/-- 2.1. -/
theorem test_nop_keeps : okWith (exec .nop (operands 1 2 3 4)) (fun t => t.regs == ⟨1, 2, 3, 4, 0⟩) = true := by decide
theorem test_add_wraps : okWith (exec .add (operands 0x7FFFFFFF 1 0 0)) (fun t => t.regs.r == 0x80000000) = true := by decide
theorem test_sub_order : okWith (exec .sub (operands 16384 32768 0 0)) (fun t => t.regs.r == 0xFFFFC000) = true := by decide
theorem test_mul_floor : okWith (exec .mul (operands (-3) 1 0 0)) (fun t => t.regs.r == 0xFFFFFFFF) = true := by decide
theorem test_mul_low : okWith (exec .mul (operands 0x7FFFFFFF 0x7FFFFFFF 0 0)) (fun t => t.regs.r == 0xFFFE0000) = true := by decide
theorem test_div_trunc : okWith (exec .div (operands (-32768) 98304 0 0)) (fun t => t.regs.r == 0xFFFFD556) = true := by decide
theorem test_div_zero : okWith (exec .div (operands 32768 0 0 0))
    (fun t => t.regs.r == 0 && t.status == 0x00010004 && t.flt.info == 0x04000080) = true := by decide
theorem test_clamp_crossed : okWith (exec .clamp (operands 5 10 0 0)) (fun t => t.regs.r == 10) = true := by decide
/-- 2.1 where the sum fits, and 92_eei_decisions.md D9 where it does not: the exact sum 2^31 clamps to 524288 (log 9). -/
theorem test_addclamp : okWith (exec .addclamp (operands (-30000) (-10000) (-32768) 32767))
      (fun t => t.regs.r == 0xFFFF8000) = true ∧
    okWith (exec .addclamp (operands 0x7FFFFFFF 1 (-524288) 524288)) (fun t => t.regs.r == 524288) = true := by decide
theorem test_shra_count : okWith (exec .shra (operands 0x40000000 33 0 0)) (fun t => t.regs.r == 0x20000000) = true := by decide
theorem test_fromint_wraps : okWith (exec .fromint (operands 65536 0 0 0)) (fun t => t.regs.r == 0x80000000) = true := by decide
theorem test_toint_floor : okWith (exec .toint (operands (-32769) 0 0 0)) (fun t => t.regs.r == 0xFFFFFFFE) = true := by decide
theorem test_fromfloat_half : okWith (exec .fromfloat (operands 0xB8400000 0 0 0)) (fun t => t.regs.r == 0xFFFFFFFE) = true := by
  decide
theorem test_fromfloat_nan : okWith (exec .fromfloat (operands 0x7FC00000 0 0 0))
    (fun t => t.status == 0x00080004 && t.flt.info == 0x0A000083) = true := by decide
theorem test_tofloat_even : okWith (exec .tofloat (operands 0x7FFFFFFF 0 0 0)) (fun t => t.regs.r == 0x47800000) = true := by
  decide

/-- 42_oscillators.md R175: only the phase is reset. -/
theorem test_oscReset : okWith (exec (.oscReset 1 .saw) (withVoice 1 fun x => { x with saw := ⟨5, 7⟩ }))
    (fun t => (t.voice 1).saw == ⟨0, 7⟩) = true := by decide
theorem test_oscSetinc : okWith (exec (.oscSetinc 0 .saw) (operands 0x028DDFB9 0 0 0))
    (fun t => (t.voice 0).saw == ⟨0, 0x028DDFB9⟩ && (t.voice 0).pulse == ⟨0, 0⟩) = true := by decide
/-- 42_oscillators.md R180, R181. -/
theorem test_sawNext : okWith (exec (.sawNext 0) (withVoice 0 fun x => { x with saw := ⟨0xFFFFFFFF, 0xFFFFFFFF⟩ }))
    (fun t => t.regs.r == 32767 && (t.voice 0).saw.acc == 0xFFFFFFFE) = true := by decide
/-- 2.2: a negative width. -/
theorem test_pulseNext : okWith (exec (.pulseNext 0) (withVoice 0 fun x => { x with width := -5 }))
    (fun t => t.regs.r == 0xFFFF8000) = true := by decide
theorem test_subNext : okWith (exec (.subNext 0) (withVoice 0 fun x => { x with sub := ⟨0x80000000, 1⟩ }))
    (fun t => t.regs.r == 0xFFFF8000) = true := by decide
/-- 42_oscillators.md R187, the fourth call. -/
theorem test_noiseNext : okWith (exec (.noiseNext 0) (withVoice 0 fun x => { x with seed := 0xD1CCF6E9 }))
    (fun t => t.regs.r == BitVec.ofInt 32 (-11828) && (t.voice 0).seed == 0xAAF95334) = true := by decide
/-- 43_sine_lut.md R204, the second call. -/
theorem test_sineNext : okWith (exec .sineNext { State.reset with sine0 := ⟨0x028DDFB9, 0x028DDFB9⟩ })
    (fun t => t.regs.r == 2052 && t.sine0.acc == 0x051BBF72) = true := by decide +kernel
theorem test_pulseSetw : okWith (exec (.pulseSetw 1) (operands 8192 0 0 0)) (fun t => (t.voice 1).width == 8192) = true := by
  decide
theorem test_oscRead_selector : okWith (exec (.oscRead 0 .pulse) (operands 0 3 0 0))
    (fun t => t.status == 0x00020004 && t.flt.info == 0x24010081) = true := by decide
theorem test_oscRead_width : okWith (exec (.oscRead 0 .pulse) (operands 0 2 0 0)) (fun t => t.regs.r == 16384) = true := by decide
theorem test_oscSetfreq_negative : okWith (exec (.oscSetfreq 0 .saw) (operands 0xC3DC0000 0 0 0))
    (fun t => (t.voice 0).saw.inc == 0xFD722047) = true := by decide
theorem test_oscSetfreq_sub : okWith (exec (.oscSetfreq 0 .sub) (operands 0x43DC0000 0 0 0))
    (fun t => (t.voice 0).sub.inc == 0x0146EFDD) = true := by decide
theorem test_sineLut_floor : okWith (exec .sineLut (operands 0x80200000 0 0 0))
    (fun t => t.regs.r == BitVec.ofInt 32 (-101)) = true := by decide +kernel
/-- 42_oscillators.md R172, n = 69 and n = 127. -/
theorem test_noteTables : noteInc Cfg.default 69 = 0x028DDFB9 ∧ subInc Cfg.default 69 = 0x0146EFDD ∧
    noteInc Cfg.default 127 = 0x48D12253 := by decide +kernel

/-- 43_sine_lut.md R205: the four vectors at the peaks of the default table (log 10). -/
theorem test_sineLut_peaks : [0x3FFFFFFF, 0x40000000, 0x40200000, 0xC0000000].map (sineInterp State.reset.cfg) =
    [32767, 32768, 32767, wrap32 (-32768)] := by decide +kernel

/-- 2.4. -/
theorem test_smReset : okWith (exec (.smReset (.global .masterVol)) (operands 100 0 0 0))
    (fun t => t.mix.masterVol == ⟨1638, 1638, 0, 0, 100, 0, false⟩) = true := by decide
theorem test_smSetvalue : okWith (exec (.smSetvalue (.global .sawLvl)) (operands 0 0 0 0))
    (fun t => t.mix.sawLvl == ⟨0, 0, 0, 0, 441, 0, false⟩) = true := by decide
theorem test_smSettarget : okWith (exec (.smSettarget (.global .masterVol)) (operands 32768 0 0 0))
    (fun t => t.mix.masterVol == ⟨1638, 1638, 0, 0, 2205, 32768, false⟩ &&
      okWith t.controlStep (fun u => u.mix.masterVol == ⟨1638, 1638, 0, 0, 2205, 32768, true⟩)) = true := by decide
theorem test_smNext : okWith (exec (.smNext (.global .sawLvl))
      { State.reset with mix := { State.reset.mix with sawLvl := ⟨0, 0, 0, 0, 441, 32768, true⟩ } })
    (fun t => t.regs.r == 74 && t.mix.sawLvl == ⟨74, 32768, 74, 440, 441, 32768, false⟩) = true := by decide
theorem test_smNext_unit : okWith (exec (.smNext (.voice 4 .vel)) State.reset)
    (fun t => t.flt.info == 0x33280081) = true := by decide
theorem test_smRead : okWith (exec (.smRead (.voice 0 .dec)) (operands 0 1 0 0)) (fun t => t.regs.r == 8820) = true := by decide

/-- 2.5. -/
theorem test_paramSet_clamps : okWith (exec (.paramSet 0) (operands 0x40A00000 0 0 0))
    (fun t => (t.cell 0).latest == 0x40200000 && (t.cell 1).latest == 0x3E4CCCCD) = true := by decide
theorem test_paramSet_nan : okWith (exec (.paramSet 3) (operands 0x7FC00000 0 0 0))
    (fun t => (t.cell 3).latest == 0x3DCCCCCD && t.flt.info == 0x40030083) = true := by decide
/-- 45_parameters.md R247. -/
theorem test_paramSetn : okWith (exec (.paramSetn 0) (operands 0x3F000000 0 0 0))
    (fun t => (t.cell 0).latest == 0x3FA01063) = true := by decide
theorem test_paramGet_cc : okWith (exec (.paramGet 3) (operands 0 4 0 0)) (fun t => t.regs.r == 72) = true := by decide
/-- 45_parameters.md R249. -/
theorem test_paramGetn : okWith (exec (.paramGetn 0) State.reset) (fun t => t.regs.r == 0x3B6C0624) = true := by decide

/-- 46_envelope.md R270 to R274. -/
theorem test_envNoteOn : okWith (exec (.envNoteOn 0) State.reset) (fun t => (t.voice 0).env.state == .attack) = true := by decide
theorem test_envNoteOff : okWith (exec (.envNoteOff 0) (withVoice 0 fun x =>
      { x with env := { x.env with state := .sustain, level := 9830 } }))
    (fun t => (t.voice 0).env.state == .release && (t.voice 0).env.releaseStart == 9830) = true := by decide
theorem test_envTick : okWith (exec (.envTick 0) (withVoice 0 fun x => { x with env := { x.env with state := .attack } }))
    (fun t => t.regs.r == 74 && (t.voice 0).env.counter == 1) = true := by decide
theorem test_envRead : okWith (exec (.envRead 0) (operands 0 6 0 0)) (fun t => t.regs.r == 220) = true := by decide
theorem test_envLevel : okWith (exec (.envLevel 3) State.reset) (fun t => t.regs.r == 0) = true := by decide

/-- 2.7 and 47_filter.md R295, R299, R302. -/
theorem test_ladderStep : okWith (exec (.ladderStep 0) (operands 32768 13926 25560 0))
    (fun t => t.regs.r == 2670 && (t.voice 0).lad == ⟨13926, 5918, 2515, 1068⟩) = true := by decide +kernel
theorem test_ladderG : okWith (exec .ladderG (operands 32768 0 0 0)) (fun t => t.regs.r == 27820) = true := by decide
theorem test_ladderRes : okWith (exec .ladderRes (operands 6554 0 0 0)) (fun t => t.regs.r == 25560) = true := by decide
theorem test_cutoffMod : okWith (exec .cutoffMod (operands (-1) 0 200 0)) (fun t => t.regs.r == 0) = true := by decide
/-- 47_filter.md R298: `ENV_AMOUNT = 16384`, `KEY_TRACK = 32768`. -/
theorem test_cutoffMod_amounts : okWith (exec .cutoffMod
      { operands 16384 32768 48 0 with cfg := { Cfg.default with envAmount := 16384, keyTrack := 32768 } })
    (fun t => t.regs.r == 22938) = true := by decide
theorem test_ladderRead : okWith (exec (.ladderRead 0) { withVoice 0 fun x => { x with lad := ⟨1, 2, 3, 1068⟩ } with
    regs := ⟨0, 3, 0, 0, 0⟩ }) (fun t => t.regs.r == 1068) = true := by decide
theorem test_svfStep : okWith (exec (.svfStep 0) State.reset) (fun t => t.flt.info == 0x68000081) = true := by decide

/-- 2.8 and 48_voice.md R307, R309, R311. -/
theorem test_voiceNoteOn : okWith (exec (.voiceNoteOn 0) (operands 60 25802 0 0))
    (fun t => (t.voice 0).word == 0x0002013C && (t.voice 0).saw.inc == 0x0184CBB7 && (t.voice 0).sub.inc == 0x00C265DB &&
      (t.voice 0).vel.pending == 25802) = true := by decide +kernel
theorem test_voiceNoteOff : okWith (exec (.voiceNoteOff 2) (withVoice 2 fun x =>
      { x with midiNote := 62, active := true, env := { x.env with state := .attack } }))
    (fun t => (t.voice 2).word == 0x0005003E) = true := by decide
theorem test_voiceRead : okWith (exec (.voiceRead 0) (withVoice 0 fun x =>
      { x with midiNote := 127, active := true, env := { x.env with state := .attack } }))
    (fun t => t.regs.r == 0x0002017F) = true := by decide
/-- 48_voice.md R311, the first render after VOICE_NOTE_ON 69. -/
theorem test_voiceRender : okWith (exec (.voiceNoteOn 0) (operands 69 32768 0 0))
    (fun t => okWith (exec (.voiceRender 0) t) (fun u => u.regs.r == 0xFFFFFFFF)) = true := by decide +kernel

/-- 49_polyphony.md R336: four voices in Sustain at 9830, 9830, 5000 and 9830. -/
def sustaining : State :=
  let x := Voice.reset Cfg.default
  let at' (l : Word) : Voice := { x with env := { x.env with state := .sustain, level := l } }
  { operands 60 0 0 0 with voices := [at' 9830, at' 9830, at' 5000, at' 9830] }

theorem test_vmSelect_sustain : okWith (exec .vmSelect sustaining) (fun t => t.regs.r == 0x00040102) = true := by decide
theorem test_vmSelect_idle : okWith (exec .vmSelect (operands 60 0 0 0)) (fun t => t.regs.r == 0x00020000) = true := by decide
theorem test_illegalUop : okWith (exec (.uopIssue 0x00010000) State.reset)
    (fun t => t.status == 0x00020004 && t.flt.info == 0x00010081) = true := by decide

/-- 49_polyphony.md R325 to R330. -/
theorem test_evtNoteOn : okWith (exec (.evtNoteOn 60 100 0) State.reset)
    (fun t => (t.voice 0).midiNote == 60 && (t.voice 0).active &&
      t.work.todo == [.w1 (.voice 0 .vel) 25802, .w2 (.voice 0 .vel), .envOn 0]) = true := by decide +kernel
def sounding : State := withVoice 0 fun x => { x with midiNote := 60, active := true, env := { x.env with state := .attack } }
theorem test_evtNoteOnV0 : okWith (exec (.evtNoteOnV0 60 0) sounding)
    (fun t => !(t.voice 0).active && (t.voice 0).env.state == .release) = true := by decide
theorem test_evtNoteOff : okWith (exec (.evtNoteOff 60 0 0) sounding)
    (fun t => !(t.voice 0).active && (t.voice 0).env.state == .release) = true := by decide
theorem test_evtNoteOff_none : okWith (exec (.evtNoteOff 61 0 0) sounding) (fun t => (t.voice 0).active) = true := by decide
theorem test_evtAllNotesOff : okWith (exec (.evtAllNotesOff 0 0) sounding)
    (fun t => (t.voice 0).env.state == .release && (t.voice 1).env.state == .idle) = true := by decide
theorem test_evtCcIgnored : okWith (exec (.evtCcIgnored 74 64 0) sounding) (fun t => (t.voice 0).active) = true := by decide
theorem test_evtOtherIgnored : okWith (exec (.evtOtherIgnored 0x91 60 100 0) State.reset)
    (fun t => (t.voice 0).env.state == .idle) = true := by decide

/-- 70_reset_and_hazards.md R391; 49_polyphony.md R321, R341; 95_test_vectors.md 2.9. -/
theorem test_reset : okWith (exec .reset { sounding with seq := filling.seq, mem := [(0x1000, 7)] })
    (fun t => (t.voice 0).word == 0 && t.status == 0x00000004 && t.mem == [(0x1000, 7)]) = true := by decide
theorem test_fill : okWith (exec (.fill false) State.reset) (fun t => t.status.getLsbD 0) = true := by decide
theorem test_fill_busy : okWith (exec (.fill true) filling) (fun t => t.flt.info == 0x00000184) = true := by decide
theorem test_evtPush : okWith (exec (.evtPush 0x903C6400) State.reset)
    (fun t => t.status == 0x00000100 && t.packets == [0x903C6400]) = true := by decide
theorem test_uopIssue : okWith (exec (.uopIssue 0x01000000) (operands 16384 16384 0 0)) (fun t => t.regs.r == 32768) = true := by
  decide
/-- `wr FILL, 3`; `wr CTRL, 2`. -/
theorem test_reservedWrites :
    okWith (State.reset.request .control .write 0x00C 3) (fun t => t.flt.info == 0x00000C81) = true ∧
      okWith (State.reset.request .control .write 0x000 2) (fun t => t.flt.info == 0x00000081) = true := by decide
/-- 20_memory.md R72: an access past the last table, and one below BASE (log 16), record ILLEGAL with the offset. -/
theorem test_unmapped :
    okWith (State.reset.access .control ⟨.read, 0x3400, 4, 0⟩) (fun t => t.flt.info == 0x00340081) = true ∧
      okWith ({ State.reset with cfg := { Cfg.default with base := 0x1000 } }.access .driver ⟨.write, 0xFFC, 4, 0⟩)
        (fun t => t.flt.info == 0xFFFFFC81) = true := by decide
/-- BUSY (60_exceptions.md R376). -/
theorem test_busy : okWith (exec (.smNext (.global .sawLvl)) filling) (fun t => t.flt.info == 0x33000082) = true := by decide
/-- The step runs the word that is presented (log 2). -/
theorem test_withFetchWord :
    okWith (step ((operands 16384 16384 0 0).withFetchWord 32 0x01000000)) (fun t => t.regs.r == 32768) = true ∧
      okWith (step (sounding.withFetchWord 32 0x803C0000)) (fun t => (t.voice 0).env.state == .release) = true := by
  decide +kernel

/-! ### Witnesses: for each statement with hypotheses, a state and operands that meet them, one per clause at a boundary -/

theorem witness_DivUop : (operands 1 0 0 0).regs.b = 0 ∧ (operands 1 0xFFFFFFFF 0 0).regs.b ≠ 0 := by decide

/-- A sum below, above and at the bounds, and crossed bounds. -/
theorem witness_AddClampUop :
    let sum (s : State) : Int := s.regs.a.toInt + s.regs.b.toInt
    (let s := operands 0x80000000 0x80000000 (-5) 5; s.regs.c.toInt ≤ s.regs.d.toInt ∧ sum s < s.regs.c.toInt) ∧
    (let s := operands 0x7FFFFFFF 1 (-5) 5; s.regs.c.toInt ≤ s.regs.d.toInt ∧ s.regs.d.toInt < sum s) ∧
    (let s := operands 2 3 5 5; s.regs.c.toInt ≤ s.regs.d.toInt ∧ s.regs.c.toInt ≤ sum s ∧ sum s ≤ s.regs.d.toInt) ∧
    (let s := operands 2 3 5 4; s.regs.d.toInt < s.regs.c.toInt) := by decide

theorem witness_FloatConversions :
    0x7F800000 ≤ (operands 0x7F800000 0 0 0).regs.a.toNat % 2 ^ 31 ∧ (operands 0xFF7FFFFF 0 0 0).regs.a.toNat % 2 ^ 31 < 0x7F800000 ∧
      fNotFinite 0x7F7FFFFF = false := by decide

theorem witness_FloatConversions_half :
    2 * |fUnits 0x37800000 - 1 * 2 ^ 134| = (2 ^ 134 : Int) ∧ fUnits 0x47800000 ≠ fUnits 0x477FFFFF := by decide

theorem witness_ArithmeticLaws : (5 : Word).toInt ≤ (5 : Word).toInt ∧ (4 : Word).toInt ≤ (6 : Word).toInt := by decide

/-- For OscControlUops, OscSampleUops, OscReadUop, EnvReadUops, LadderStepUop, VoiceEventUops and VoiceRenderUop: the last voice. -/
theorem witness_voice_idle : State.reset.seq.busy = false ∧ 3 < State.reset.cfg.nvoices := by decide

theorem witness_OscReadUop : (operands 0 0 0 0).regs.b = 0 ∧ (operands 0 1 0 0).regs.b = 1 ∧ (operands 0 2 0 0).regs.b = 2 ∧
    3 ≤ (operands 0 3 0 0).regs.b.toNat ∧ Kind.noise ≠ Kind.sine := by decide

theorem witness_OscSetfreqUop : (operands 0x7F800000 0 0 0).seq.busy = false ∧ 3 < (operands 0x7F800000 0 0 0).cfg.nvoices ∧
    0 < (operands 0x7F800000 0 0 0).cfg.sr ∧ 0x7F800000 ≤ (operands 0x7F800000 0 0 0).regs.a.toNat % 2 ^ 31 ∧
    Kind.saw ≠ Kind.noise ∧ (operands 0x7F7FFFFF 0 0 0).regs.a.toNat % 2 ^ 31 < 0x7F800000 := by decide

theorem witness_NoteTablesRounded : Cfg.default.legal = true ∧ 127 < 128 := by decide +kernel

/-- For SmWriteUops, SmNextUop and SmReadUop: a smoother of the last voice. -/
theorem witness_smoother_idle : State.reset.seq.busy = false ∧
    ∀ v k, SmId.voice 3 .rel = .voice v k → v < State.reset.cfg.nvoices := by
  refine ⟨rfl, fun v k h => ?_⟩
  cases h
  decide

theorem witness_SmSettargetUop : filling.voices.length = filling.cfg.nvoices ∧
    ∀ v k, SmId.voice 3 .vel = .voice v k → v < filling.cfg.nvoices := by
  refine ⟨by decide, fun v k h => ?_⟩
  cases h
  decide

theorem witness_SmNextUop : ∃ m0 m1 m2 n0 n1 n2 : Smoother,
    (m0.hasNew = false ∧ m0.remaining = 0) ∧ (m1.hasNew = false ∧ m1.remaining = 1) ∧
    (m2.hasNew = false ∧ 1 < m2.remaining.toNat) ∧ (n0.hasNew = true ∧ n0.rampLength = 0) ∧
    (n1.hasNew = true ∧ n1.rampLength = 1) ∧ (n2.hasNew = true ∧ 1 < n2.rampLength.toNat) :=
  ⟨⟨5, 5, 0, 0, 441, 0, false⟩, ⟨5, 9, 2, 1, 441, 0, false⟩, ⟨5, 9, 2, 2, 441, 0, false⟩, ⟨5, 5, 0, 0, 0, 9, true⟩,
    ⟨5, 5, 0, 0, 1, 9, true⟩, ⟨5, 5, 0, 0, 2, 9, true⟩, by decide⟩

theorem witness_SmReadUop : (operands 0 6 0 0).regs.b = 6 ∧ (operands 0 5 0 0).regs.b = 5 ∧ (operands 0 4 0 0).regs.b = 4 ∧
    (operands 0 3 0 0).regs.b = 3 ∧ 7 ≤ (operands 0 7 0 0).regs.b.toNat := by decide

theorem witness_SmootherReachesTarget : (⟨5, 5, 0, 0, 0, 0, false⟩ : Smoother).rampLength = 0 := by decide

theorem witness_ParamSetUop : (operands 0x7F800001 0 0 0).cells.length = 12 ∧
    fIsNaN (operands 0x7F800001 0 0 0).regs.a = true ∧ fIsNaN (operands 0x7F800000 0 0 0).regs.a = false ∧
    fUnits (operands 0x3A83126E 0 0 0).regs.a < fUnits (paramMeta 0).min ∧
    fUnits (paramMeta 0).max < fUnits (operands 0x40200001 0 0 0).regs.a ∧
    fUnits (paramMeta 0).min ≤ fUnits (operands 0x3A83126F 0 0 0).regs.a ∧
    fUnits (operands 0x3A83126F 0 0 0).regs.a ≤ fUnits (paramMeta 0).max := by decide

/-- Operands whose sum, difference and product are in range, and ones whose sum and product overflow. -/
theorem witness_rounding : fNotFinite 0x7F7FFFFF = false ∧ fUnits 0x7F7FFFFF ≠ 0 ∧
    |fUnits 0x3F800000 + fUnits 0x3F800000| < (1 : Nat) * ((2 ^ 25 - 1) * 2 ^ 252) ∧
    (1 : Nat) * ((2 ^ 25 - 1) * 2 ^ 252) ≤ fUnits 0x7F7FFFFF + fUnits 0x7F7FFFFF ∧
    fUnits 0x7F7FFFFF * fUnits 0xFF7FFFFF ≤ -((2 ^ 149 : Nat) * ((2 ^ 25 - 1) * 2 ^ 252) : Int) := by decide +kernel

theorem witness_ParamSetnUop : (operands 0x7FC00000 0 0 0).cells.length = 12 ∧
    fIsNaN (operands 0x7FC00000 0 0 0).regs.a = true ∧ fIsNaN (operands 0x3F800000 0 0 0).regs.a = false := by decide

theorem witness_ParamReadUops : (operands 0 0 0 0).regs.b = 0 ∧ (operands 0 1 0 0).regs.b = 1 ∧ (operands 0 2 0 0).regs.b = 2 ∧
    (operands 0 3 0 0).regs.b = 3 ∧ (operands 0 4 0 0).regs.b = 4 ∧ 5 ≤ (operands 0 5 0 0).regs.b.toNat := by decide

theorem witness_ParamRoundTrip :
    let s := operands 0x3F800000 0 0 0
    let t := after (exec (.paramSetn 2) s)
    s.cells.length = 12 ∧ (2 : Fin 12).val ∈ [2, 4, 5, 6, 7, 9, 10, 11] ∧ fIsNaN s.regs.a = false ∧ 0 ≤ fUnits s.regs.a ∧
      fUnits s.regs.a ≤ fUnits 0x3F800000 ∧ exec (.paramSetn 2) s = .next t ∧
      exec (.paramGetn 2) t = .next (after (exec (.paramGetn 2) t)) :=
  ⟨by decide, by decide, by decide, by decide, by decide, rfl, rfl⟩

theorem witness_SampledRanges : fNotFinite 0x3C23D70A = false ∧ Cfg.default.legal = true ∧ Cfg.default.sr = 44100 ∧
    InRange 0 (paramMeta 0).min ∧ InRange 1 (paramMeta 1).max ∧ InRange 2 0x80000000 ∧ InRange 3 (paramMeta 3).max ∧
    InRange 8 (paramMeta 8).min ∧ InRange 11 (paramMeta 11).max ∧
    ({ Cfg.default with sr := 22050 } : Cfg).legal = true := by
  unfold InRange
  decide +kernel

/-- AUDIO before the conversion of a cell whose value is new, and of one whose value was sent before. -/
theorem witness_SampledRanges_unit :
    let s : State := { filling with work := ⟨[.conv 0, .conv 11], List.replicate 12 0x3D4CCCCD, 0, 0, []⟩ }
    s.seq.busy = true ∧ s.voices.length = s.cfg.nvoices ∧ s.work.todo = .conv 0 :: [.conv 11] ∧
      sampleValue s.cfg 0 (s.work.latch.getD 0 0) ≠ s.sent.get 0 ∧
      sampleValue s.cfg 11 (s.work.latch.getD 11 0) = s.sent.get 11 := by decide +kernel

theorem witness_EnvEventUops : ∃ fade low loud idle : Voice,
    fade.env.state = .stealFade ∧ (loud.env.state ≠ .stealFade ∧ 0 < loud.env.level.toInt ∧ loud.env.state ≠ .idle) ∧
      (low.env.state ≠ .stealFade ∧ low.env.level.toInt ≤ 0) ∧ idle.env.state = .idle :=
  let x := Voice.reset Cfg.default
  ⟨{ x with env := { x.env with state := .stealFade } }, { x with env := { x.env with state := .attack, level := 0 } },
    { x with env := { x.env with state := .sustain, level := 1 } }, x, by decide⟩

/-- A timed phase at its last tick (counter 3) and before it (counter 2), for length 4. -/
def phaseAt (st : EnvState) (counter : Word) : Voice :=
  let x := Voice.reset Cfg.default
  { x with
    att := .rest 4 441
    dec := .rest 4 441
    rel := .rest 4 441
    env := { x.env with
      state := st
      counter := counter
      attackSamples := 4
      decaySamples := 4
      releaseSamples := 4
      stealFadeSamples := 4 } }

theorem witness_EnvTickUop :
    let tick (x : Voice) : Env :=
      (((({ x.env with sustainLevel := x.sus.next.current } : Env).updateTime .attack
        x.att.next.current.toInt.toNat).updateTime .decay x.dec.next.current.toInt.toNat).updateTime .release
        x.rel.next.current.toInt.toNat)
    let ends (x : Voice) (T : Env → Word) : Bool := (T (tick x)).toNat ≤ (tick x).counter.toNat + 1
    (tick (phaseAt .idle 0)).state = .idle ∧ (tick (phaseAt .sustain 0)).state = .sustain ∧
      (tick (phaseAt .attack 3)).state = .attack ∧ ends (phaseAt .attack 3) Env.attackSamples = true ∧
      (tick (phaseAt .attack 2)).state = .attack ∧ ends (phaseAt .attack 2) Env.attackSamples = false ∧
      (tick (phaseAt .decay 3)).state = .decay ∧ ends (phaseAt .decay 3) Env.decaySamples = true ∧
      (tick (phaseAt .decay 2)).state = .decay ∧ ends (phaseAt .decay 2) Env.decaySamples = false ∧
      (tick (phaseAt .release 3)).state = .release ∧ ends (phaseAt .release 3) Env.releaseSamples = true ∧
      (tick (phaseAt .release 2)).state = .release ∧ ends (phaseAt .release 2) Env.releaseSamples = false ∧
      (tick (phaseAt .stealFade 3)).state = .stealFade ∧ ends (phaseAt .stealFade 3) Env.stealFadeSamples = true ∧
      (tick (phaseAt .stealFade 2)).state = .stealFade ∧ ends (phaseAt .stealFade 2) Env.stealFadeSamples = false := by
  decide

theorem witness_EnvUpdateTime :
    let past (e : Env) (n : Nat) : Bool := 0 < n && 32768 < e.counter.toNat * 2 ^ 15 / n
    let a := (phaseAt .attack 3).env
    let d := (phaseAt .decay 3).env
    let r := (phaseAt .release 3).env
    (4 : Nat) = a.attackSamples.toNat ∧ 2 ≠ a.attackSamples.toNat ∧ 2 ^ 31 - 1 < 2 ^ 31 ∧
      past a 3 = false ∧ past a 2 = true ∧ a.state = .attack ∧
      past d 3 = false ∧ past d 2 = true ∧ d.state = .decay ∧ 2 ≠ d.decaySamples.toNat ∧
      past r 3 = false ∧ past r 2 = true ∧ r.state = .release ∧ 2 ≠ r.releaseSamples.toNat := by decide

theorem witness_EnvReadUops : (operands 0 9 0 0).regs.b = 9 ∧ (operands 0 8 0 0).regs.b = 8 ∧
    10 ≤ (operands 0 10 0 0).regs.b.toNat := by decide

theorem atRest_phase (st : EnvState) : (phaseAt st 0).envAtRest := by
  refine ⟨⟨rfl, rfl, rfl⟩, ⟨rfl, rfl, rfl⟩, ⟨rfl, rfl, rfl⟩, ⟨rfl, rfl, rfl⟩, rfl, rfl, rfl, rfl, ?_, ?_, ?_⟩ <;>
    exact (by decide : (0 : Int) ≤ s32 4)

/-- The phases are four ticks long. -/
theorem witness_EnvelopeTrajectory : (phaseAt .idle 0).envAtRest ∧ 1 ≤ (phaseAt .idle 0).env.attackSamples.toNat ∧
    1 ≤ (phaseAt .idle 0).env.decaySamples.toNat ∧ 1 ≤ (phaseAt .idle 0).env.releaseSamples.toNat ∧
    (phaseAt .idle 0).env.state = .idle ∧ (phaseAt .idle 0).env.level = 0 ∧
    (phaseAt .sustain 0).envAtRest ∧ (phaseAt .sustain 0).env.state = .sustain :=
  ⟨atRest_phase .idle, by decide, by decide, by decide, by decide, by decide, atRest_phase .sustain, by decide⟩

theorem witness_StealFadeMonotone :
    let x : Voice := { phaseAt .sustain 0 with env := { (phaseAt .sustain 0).env with level := 1 } }
    x.envAtRest ∧ x.env.state ≠ .stealFade ∧ 0 < x.env.level.toInt ∧ 1 ≤ x.env.stealFadeSamples.toNat ∧
      3 < x.env.stealFadeSamples.toNat :=
  ⟨atRest_phase .sustain, by decide, by decide, by decide, by decide⟩

theorem witness_CoefficientUops : 0 ≤ (operands 0 0 0 0).regs.a.toInt ∧ (operands 32768 0 0 0).regs.a.toInt ≤ 32768 := by decide

theorem witness_LadderReadAndSvf : (operands 0 3 0 0).regs.b = 3 ∧ 4 ≤ (operands 0 4 0 0).regs.b.toNat ∧
    (0x68FFFFFF : Word).extractLsb' 24 8 = 0x68 := by decide

theorem witness_LadderBounded :
    let l : Ladder := ⟨524288, -524288, 524288, -524288⟩
    0 ≤ (32768 : Word).toInt ∧ (32768 : Word).toInt ≤ 32768 ∧ 0 ≤ (127795 : Word).toInt ∧ (127795 : Word).toInt ≤ 127795 ∧
      |(-524288 : Word).toInt| ≤ 524288 ∧ |l.s1.toInt| ≤ 524288 ∧ |l.s2.toInt| ≤ 524288 ∧ |l.s3.toInt| ≤ 524288 ∧
      |l.s4.toInt| ≤ 524288 := by decide

/-- For VoiceRenderUop: an Idle voice, and a voice whose level and velocity after the render are ONE. -/
theorem witness_VoiceRenderUop : (State.reset.voice 3).env.state = .idle ∧
    (let x : Voice := { phaseAt .attack 3 with vel := .rest 32768 441 }
      let y := (x.render Cfg.default State.reset.mix State.reset.sent).2
      y.env.level = 32768 ∧ y.vel.current = 32768) := by decide +kernel

theorem witness_VmSelectUop : sustaining.seq.busy = false ∧ sustaining.cfg.legal = true ∧
    sustaining.voices.length = sustaining.cfg.nvoices := by decide +kernel

/-- Every step of the allocation occurs. -/
theorem witness_VmSelectUop_steps :
    let at' (st : EnvState) (n : BitVec 7) : Voice := { phaseAt st 0 with midiNote := n }
    selectVoice [at' .attack 60, at' .release 61] 61 = (1, 1) ∧ selectVoice [at' .attack 60, at' .idle 61] 62 = (1, 2) ∧
      selectVoice [at' .attack 60, at' .release 61] 62 = (1, 3) ∧ selectVoice [at' .attack 60, at' .sustain 61] 62 = (1, 4) ∧
      selectVoice [at' .attack 60, at' .decay 61] 62 = (0, 5) := by decide

theorem witness_EvtOtherMeanings : 0 < sounding.voices.length ∧ (sounding.voice 0).active = true ∧
    (sounding.voice 0).midiNote = BitVec.ofNat 7 (min (60 : Byte).toNat 127) ∧
    (∀ u, u < State.reset.voices.length → ¬((State.reset.voice u).active = true)) := by decide

/-- The voice a note-on chooses during a fill, with an envelope in each of the three cases. -/
theorem witness_EvtNoteOnMeaning :
    let s (x : Env) : State := { filling with voices := filling.voices.set 0 { filling.voice 0 with midiNote := 60, active := true, env := x } }
    let e := Env.reset Cfg.default
    (selectVoice (s e).voices 60).1 = 0 ∧ (s e).seq.busy = true ∧
      ((s { e with state := .stealFade }).voice 0).env.state = .stealFade ∧
      ((s { e with state := .sustain, level := 1 }).voice 0).env.state ≠ .stealFade ∧
      0 < ((s { e with state := .sustain, level := 1 }).voice 0).env.level.toInt ∧
      ((s e).voice 0).env.state ≠ .stealFade ∧ ((s e).voice 0).env.level.toInt ≤ 0 := by decide

theorem witness_NoteOnThenOff : 0 < sounding.voices.length ∧ OneHolder sounding.voices := by
  refine ⟨by decide, ?_⟩
  intro v hv x hx ha u hu y hy hn hy'
  have hv : v < 4 := hv
  have hu : u < 4 := hu
  have h0 : v = 0 := by
    interval_cases v
    · rfl
    all_goals (cases hx; exact absurd ha (by decide))
  subst h0
  refine ⟨Nat.zero_le _, fun hya => ?_⟩
  interval_cases u
  · rfl
  all_goals (cases hy; exact absurd hya (by decide))

theorem witness_ResetCommand : 2 ≤ (2 : Word).toNat ∧
    (State.reset.cfg.sr = 44100 ∧ ([441, 2205, 441, 8820, 4410, 220] : List Word) = [441, 2205, 441, 8820, 4410, 220]) ∧
    (State.powerOn { Cfg.default with sr := 22050 }).cfg.sr = 22050 := by decide

theorem witness_FillCommand : State.reset.seq.busy = false ∧ filling.seq.busy = true ∧ Agent.driver ≠ Agent.audio ∧
    2 ≤ (2 : Word).toNat := by decide

/-- A FIFO with one packet, and a full one. -/
def onePacket : State := after (exec (.evtPush 0x903C6400) State.reset)
def fullFifo : State := { State.reset with fifo := { State.reset.fifo with head := 7, count := 8 } }

theorem witness_FifoOrder : FifoInv State.reset ∧ FifoInv fullFifo ∧ FifoInv onePacket ∧ State.reset.fifo.count = 0 ∧
    State.reset.fifo.count < State.reset.cfg.fifoDepth ∧ fullFifo.fifo.count = fullFifo.cfg.fifoDepth ∧
    0 < onePacket.fifo.count ∧ onePacket.port.w2Wait = none := by
  unfold FifoInv
  decide

/-- A push that waits, on a full FIFO and on one that has a slot again. -/
theorem witness_FifoOrder_waiting :
    let s := after (exec (.evtPush 5) fullFifo)
    let t : State := { State.reset with port := s.port }
    FifoInv s ∧ FifoInv t ∧ s.port.w2Wait = none ∧ s.port.pushWait = some 5 ∧ s.fifo.count = s.cfg.fifoDepth ∧
      t.port.pushWait = some 5 ∧ t.fifo.count < t.cfg.fifoDepth := by
  unfold FifoInv
  decide

theorem witness_UopIssueMeaning : decodeUop 0x00000001 = .illegalUop 0x00000001 := by decide

/-- One step of CONTROL that is no reset, from a state with a fault recorded. -/
def faulted : State :=
  { State.reset with
    flt := ⟨1, 0x04000080⟩
    port := { State.reset.port with sched := [.control], control := [⟨.write, 0x020, 4, 0x00010000⟩] } }

theorem witness_FaultRecord : step faulted = .next (after (step faulted)) ∧ ¬faulted.resetsNext ∧
    faulted.flt.sticky.getLsbD 0 = true ∧ faulted.flt.info.getLsbD 7 = true ∧ State.reset.flt.info.getLsbD 7 = false ∧
    fullFifo.fifo.count ≤ 128 := by
  refine ⟨eq_after _ (by decide +kernel), ?_, by decide, by decide, by decide, by decide⟩
  rintro ⟨-, -, -, xs, h⟩
  simp [faulted] at h

theorem witness_UopChecks : formOf (.envTick 4) = .uop ∧ (Instr.envTick 4).wellFormed = true ∧
    unitAdmitted State.reset.cfg (.envTick 4) = false ∧ unitAdmitted filling.cfg (.envTick 3) = true ∧
    audioExclusive (.envTick 3) = true ∧ filling.seq.busy = true := by decide

theorem witness_PortPermissions : mayRead .driver (regionOf Cfg.default 0x010) = false ∧
    mayRead .control (regionOf Cfg.default 0x1200) = false ∧ mayWrite .control (regionOf Cfg.default 0x33FC) = false ∧
    mayWrite .driver (regionOf Cfg.default 0x000) = false ∧ mayRead .driver (regionOf Cfg.default 0x3400) = false ∧
    Cfg.default.legal = true ∧ ({ Cfg.default with frames := 128 } : Cfg).legal = true ∧
    mayWrite .control (regionOf { Cfg.default with frames := 128 } 0x17FC) = true := by decide +kernel

theorem witness_RegisterReads : fullFifo.cfg.legal = true ∧ fullFifo.fifo.count ≤ fullFifo.cfg.fifoDepth ∧
    fullFifo.cfg.sineTable[1023]? = some (-201 : Word) := by decide +kernel

/-- A word of the buffer being filled, with two values a read may return, read by DRIVER and then by CONTROL. -/
theorem witness_RegisterReads_twice :
    let s : State := { filling with work := { filling.work with past := [(0, 7)] } }
    let t := after (s.request .driver .read 0x1000 0)
    (s.outCandidates false 0).length = 2 ∧ mayRead .driver (regionOf s.cfg 0x1000) = true ∧
      mayRead .control (regionOf s.cfg 0x1000) = true ∧ s.request .driver .read 0x1000 0 = .next t ∧
      t.request .control .read 0x1000 0 = .next (after (t.request .control .read 0x1000 0)) :=
  ⟨by decide, by decide, by decide, rfl, rfl⟩

theorem witness_OutbufWriteRead : State.reset.cfg.legal = true ∧ MemoryInv State.reset ∧ State.reset.seq.busy = false ∧
    127 < State.reset.cfg.bufWords := by
  unfold MemoryInv
  decide +kernel

/-- The other buffer's fill, and a word of the buffer being filled that was overwritten. -/
theorem witness_OutbufWriteRead_filling :
    let s : State := { filling with work := { filling.work with past := [(127, 7)] } }
    s.cfg.legal = true ∧ Agent.driver ≠ Agent.audio ∧ 127 < s.cfg.bufWords ∧ s.seq.busy = true ∧ s.seq.buf ≠ true ∧
      s.seq.buf = false ∧ (127, 7) ∈ s.work.past := by decide +kernel

theorem witness_StopsOfAccess : ({ Cfg.default with frames := 0 } : Cfg).legal = false ∧ (⟨.read, 0, 2, 0⟩ : Access).width ≠ 4 ∧
    (⟨.read, 2, 4, 0⟩ : Access).addr % 4 ≠ 0 ∧ (⟨.read, 0x3400, 4, 0⟩ : Access).width = 4 ∧
    (⟨.read, 0x3400, 4, 0⟩ : Access).addr % 4 = 0 ∧ Cfg.default.base + 0x3400 ≤ (⟨.read, 0x3400, 4, 0⟩ : Access).addr ∧
    (⟨.read, 0xFFC, 4, 0⟩ : Access).addr < ({ Cfg.default with base := 0x1000 } : Cfg).base := by decide +kernel

/-- CONTROL issues an access of two bytes; and an idle turn of DRIVER. -/
theorem witness_StopsOfAccess_issues :
    let s : State := { State.reset with port := { State.reset.port with sched := [.control], control := [⟨.read, 0, 2, 0⟩] } }
    let t : State := { State.reset with port := { State.reset.port with sched := [.driver] } }
    (s.cfg.legal = true ∧ ∃ a x, s.issues a x ∧ (x.width ≠ 4 ∨ x.addr % 4 ≠ 0)) ∧
      t.cfg.legal = true ∧ ∀ a x, t.issues a x → x.width = 4 ∧ x.addr % 4 = 0 := by
  refine ⟨⟨by decide +kernel, .control, _, ⟨rfl, .inl ⟨rfl, rfl, rfl, [], rfl⟩⟩, .inl (by decide)⟩, by decide +kernel, ?_⟩
  rintro a x ⟨ha, ⟨rfl, -⟩ | ⟨-, xs, h⟩⟩
  · cases ha
  · cases h

theorem witness_StepRunsDecoded :
    let s := (operands 1 2 3 4).withFetchWord 32 0x01000000
    let p := onePacket.pollFirst 0x803C0000
    s.cfg.legal = true ∧ s.port.sched = .control :: [] ∧ s.port.w2Wait = none ∧ s.port.pushWait = none ∧
      formOf .add ≠ .evt ∧ Instr.add.wellFormed = true ∧ s.port.control = [⟨.write, s.cfg.base + 0x020, 4, encode .add⟩] ∧
      formOf .reset ≠ .evt ∧ (State.reset.withFetchWord 32 1).port.control = [⟨.write, 0x000, 4, encode .reset⟩] ∧
      p.cfg.legal = true ∧ p.port.sched = .audio :: [] ∧ p.polls = true ∧
      ({ p with port := { p.port with sched := [], draws := p.port.draws + 1 } } : State).poll.isSome = true ∧
      decodeUop 0x04000000 ≠ .illegalUop 0x04000000 ∧ (0x04000000 : Word) ≠ 1 := by decide +kernel

theorem witness_DecodeEncode : (Instr.smRead (.voice 30 .rel)).wellFormed = true ∧
    decode .evt 0x90FFFF00 = .ok (.evtNoteOn 255 255 0) := by decide

/-- Eight voices, a fill in its FRAMES phase, and AUDIO or CONTROL to move. -/
def eight (a : Agent) : State :=
  { State.powerOn { Cfg.default with nvoices := 8 } with
    seq := ⟨true, true, .frames, 63, false⟩
    work := ⟨[.mixStore 127, .frameNext], [], 0, 5, []⟩
    port := { State.reset.port with sched := [a], control := [⟨.write, 0x010, 4, 7⟩] } }

theorem settled_rest (x : Word) (n : Nat) : (Smoother.rest x n).settled := fun _ => rfl

/-- The cells at reset are in range, every one at the value of 45_parameters.md R240. -/
theorem witness_cells (a : Agent) : CellInv (eight a) := by
  have h : (List.range 12).all (fun i => ((eight a).cell i).visible.all fun w =>
      !fIsNaN w && decide (fUnits (paramMeta i).min ≤ fUnits w) && decide (fUnits w ≤ fUnits (paramMeta i).max)) = true := by
    cases a <;> decide +kernel
  refine ⟨rfl, fun i hi w hw => ?_⟩
  have h := List.all_eq_true.mp (List.all_eq_true.mp h i (List.mem_range.mpr hi)) w hw
  simp only [Bool.and_eq_true, Bool.not_eq_true', decide_eq_true_eq] at h
  exact ⟨h.1.1, h.1.2, h.2⟩

theorem witness_StepKeepsInv : Inv (eight .audio) ∧ step (eight .audio) = .next (after (step (eight .audio))) := by
  refine ⟨⟨by decide +kernel, by unfold MemoryInv; decide, witness_cells _, ⟨by decide, by decide, by decide⟩, ⟨?_, ?_⟩, ?_, ?_⟩,
    eq_after _ (by decide +kernel)⟩
  · intro g
    cases g <;> exact settled_rest _ _
  · intro x hx k
    rw [List.eq_of_mem_replicate hx]
    cases k <;> exact settled_rest _ _
  · refine ⟨by decide, by decide, fun x hx => ?_⟩
    rw [List.eq_of_mem_replicate hx]
    exact ⟨fun _ => rfl, by decide, by decide⟩
  · unfold FillInv
    decide

theorem witness_MemoryFrame : MemoryInv (eight .audio) ∧ step (eight .audio) = .next (after (step (eight .audio))) ∧
    exec .add (eight .audio) = .next (after (exec .add (eight .audio))) := by
  refine ⟨?_, eq_after _ (by decide +kernel), rfl⟩
  unfold MemoryInv
  decide

/-- AUDIO stores word 127; CONTROL writes word 127 of the other buffer; AUDIO idle stores nothing. -/
theorem witness_MemoryFrame_stores :
    let s : State := { eight .control with
      port := { (eight .control).port with control := [⟨.write, 0x11FC, 4, 9⟩] } }
    let idle : State := { State.reset with port := { State.reset.port with sched := [.audio] } }
    (eight .audio).audioStores 127 5 ∧ s.controlStores false 127 9 ∧ step s = .next (after (step s)) ∧
      step idle = .next (after (step idle)) ∧ (∀ b i w, ¬idle.controlStores b i w) ∧ ∀ i w, ¬idle.audioStores i w := by
  refine ⟨⟨rfl, rfl, [.frameNext], .inr (.inl ⟨rfl, rfl⟩)⟩, ⟨by decide, rfl, .inl ⟨rfl, rfl, rfl, [], rfl⟩⟩,
    eq_after _ (by decide +kernel), eq_after _ (by decide +kernel), ?_, ?_⟩
  · rintro b i w ⟨-, h, -⟩
    cases h
  · rintro i w ⟨-, h, -⟩
    cases h

theorem witness_BusyIsolation : (eight .control).seq.busy = true ∧ (eight .control).nextAgent.1 ≠ .audio ∧
    step (eight .control) = .next (after (step (eight .control))) ∧ ¬(eight .control).resetsNext := by
  refine ⟨by decide, by decide, eq_after _ (by decide +kernel), ?_⟩
  rintro ⟨-, -, -, xs, h⟩
  simp [eight] at h

theorem witness_AudioStepFrame : (eight .audio).audioStep = .next (after (eight .audio).audioStep) ∧
    State.reset.audioStep = .next State.reset ∧ State.reset.seq.busy = false ∧ (eight .audio).cfg.legal = true ∧
    MemoryInv (eight .audio) ∧ FillInv (eight .audio) ∧ 127 < (eight .audio).cfg.bufWords := by
  refine ⟨eq_after _ (by decide +kernel), rfl, rfl, by decide +kernel, by unfold MemoryInv; decide, ?_, by decide⟩
  unfold FillInv
  decide

/-- AUDIO before a sounding voice, and before an Idle one. -/
theorem witness_AudioRendersVoice :
    let s : State := { sounding with seq := filling.seq, work := ⟨[.voice 0, .voice 3, .mix], [], 0, 0, []⟩ }
    s.seq.busy = true ∧ s.seq.phase = .frames ∧ 0 < s.voices.length ∧ s.work.todo = .voice 0 :: [.voice 3, .mix] ∧
      (s.voice 0).env.state ≠ .idle ∧ 3 < s.voices.length ∧ (s.voice 3).env.state = .idle := by decide

/-- AUDIO before a frame of FRAMES with a sounding and an Idle voice. -/
theorem witness_AudioRendersVoice_frame :
    let s : State := { sounding with seq := { filling.seq with frame := 63 } }
    s.voices.length = s.cfg.nvoices ∧ MemoryInv s ∧ s.seq.busy = true ∧ s.seq.phase = .frames ∧ s.work.todo = [] ∧
      s.seq.frame < s.cfg.frames ∧ 0 < s.cfg.nvoices ∧ (s.voice 0).env.state ≠ .idle ∧ (s.voice 3).env.state = .idle := by
  unfold MemoryInv
  decide

/-- A fill at the start of CLEAR, DRAIN and SAMPLE, and at the end of FRAMES and GAIN. -/
theorem witness_FillTerminates_phases :
    let stage (p : Phase) (f : Nat) : State := { State.reset with seq := ⟨true, true, p, f, false⟩ }
    let filled := after (exec (.fill true) State.reset)
    filled.cfg.legal = true ∧ MemoryInv filled ∧ filled.seq.busy = true ∧ filled.cells.length = 12 ∧
      filled.seq.phase = .clear ∧ filled.work.todo = [.clear 0] ∧
      (stage .drain 0).cfg.legal = true ∧ MemoryInv (stage .drain 0) ∧ (stage .drain 0).cells.length = 12 ∧
      (stage .drain 0).work.todo = [] ∧ (stage .sample 0).work.todo = [] ∧ (stage .sample 0).work.latch = [] ∧
      (stage .frames 64).seq.frame = (stage .frames 64).cfg.frames ∧ (stage .gain 64).seq.frame = (stage .gain 64).cfg.frames := by
  unfold MemoryInv
  decide +kernel

/-- AUDIO before the last frame of GAIN. -/
theorem witness_FillTerminates_gain :
    let s : State := { State.reset with seq := ⟨true, false, .gain, 63, true⟩ }
    MemoryInv s ∧ s.seq.busy = true ∧ s.seq.phase = .gain ∧ s.work.todo = [] ∧ s.seq.frame < s.cfg.frames := by
  unfold MemoryInv
  decide

theorem witness_FillTerminates : filling.cfg.legal = true ∧ filling.seq.busy = true := by decide +kernel

theorem witness_LostUpdate :
    let id := SmId.voice 3 .vel
    let s : State := { filling with
      work := ⟨[.e3 id 100, .out 3], [], 0, 0, []⟩
      port := { filling.port with
        sched := [.control, .control, .audio]
        control := [⟨.write, 0x020, 4, 0x32200000⟩] } }
    s.cfg.legal = true ∧ s.voices.length = s.cfg.nvoices ∧ (∀ v k, id = .voice v k → v < s.cfg.nvoices) ∧
      s.seq.busy = true ∧ s.work.todo = .e3 id 100 :: [.out 3] ∧ s.port.w2Wait = none ∧ s.port.pushWait = none ∧
      s.port.sched = [.control, .control, .audio] ++ [] ∧
      s.port.control = [⟨.write, s.cfg.base + 0x020, 4, encode (.smSettarget id)⟩] := by
  refine ⟨by decide +kernel, by decide, fun v k h => ?_, by decide, by decide, by decide, by decide, by decide, by decide⟩
  cases h
  decide

theorem witness_ReleaseAcquire :
    let s := operands 0x3F000000 0 0 0
    let t := after (exec (.paramSet 11) s)
    s.cells.length = 12 ∧ FifoInv s ∧ s.fifo.count < s.cfg.fifoDepth ∧ exec (.paramSet 11) s = .next t ∧
      exec (.evtPush 0x903C6400) t = .next (after (exec (.evtPush 0x903C6400) t)) ∧
      1 < (⟨5, [4], 0⟩ : Cell).visible.length := by
  refine ⟨by decide, ?_, by decide, rfl, rfl, by decide⟩
  unfold FifoInv
  decide

/-- The push goes behind a packet that waits; a store and a load of the cell follow before the polls. -/
theorem witness_ReleaseAcquire_queued :
    let s : State := { onePacket with regs := ⟨0x3F000000, 0, 0, 0, 0⟩ }
    let u := after (exec (.evtPush 0x903C6400) (after (exec (.paramSet 11) s)))
    let z := (u.storeCell 11 0x3F800000).loadCell 10
    s.cells.length = 12 ∧ s.fifo.count = 1 ∧ s.fifo.count < s.cfg.fifoDepth ∧
      ((z.pollTimes 1).poll.map fun r => (r.1, (r.2.cell 11).visible)) = some (0x903C6400, [0x3F000000, 0x3F800000]) := by
  decide +kernel

/-- AUDIO before the load of cell 11. -/
theorem witness_ReleaseAcquire_load :
    let s : State := { filling with work := ⟨[.load 11], [], 0, 0, []⟩ }
    s.cells.length = 12 ∧ s.seq.busy = true ∧ s.work.todo = .load 11 :: [] := by decide

end Sys2Proof.Tests
end

section
/-! Family 00_scope: which steps stop. Every command answers a next state, so the only stops are those of the access shape
(20_memory.md R75) and of the configuration (00_scope.md R7). -/

namespace Sys2Proof.Machine

/-! ### What `decodeUop` gives is a UOP -/

theorem formOf_pureUop (w : Word) (unit : Nat) (i : Instr) (h : formOf i = .uop) :
    formOf (pureUop w unit i) = .uop := by
  unfold pureUop
  split
  · exact h
  · rfl

theorem formOf_oscUop (w : Word) (unit : Nat) (f : Nat → Kind → Instr) (h : ∀ v k, formOf (f v k) = .uop) :
    formOf (oscUop w unit f) = .uop := by
  unfold oscUop
  split
  · exact h _ _
  · rfl

theorem formOf_oscNextUop (v : Nat) (k : Kind) : formOf (oscNextUop v k) = .uop := by
  cases k <;> rfl

theorem formOf_smUop (w : Word) (unit : Nat) (f : SmId → Instr) (h : ∀ id, formOf (f id) = .uop) :
    formOf (smUop w unit f) = .uop := by
  unfold smUop
  split
  · exact h _
  · rfl

theorem formOf_paramUop (w : Word) (unit : Nat) (f : Fin 12 → Instr) (h : ∀ i, formOf (f i) = .uop) :
    formOf (paramUop w unit f) = .uop := by
  unfold paramUop
  split
  · exact h _
  · rfl

theorem formOf_pulseSetw_row (w : Word) (unit : Nat) :
    formOf (if unit % 8 = 1 then .pulseSetw (unit / 8) else .illegalUop w) = .uop := by
  split <;> rfl

/-- Every row of the opcode map of 30_encoding.md R116 is a UOP, class by class of its unit (R115). -/
theorem formOf_decodeOp (w : Word) (op unit : Nat) : formOf (decodeOp w op unit) = .uop := by
  unfold decodeOp
  split
  any_goals exact formOf_pureUop w unit _ rfl
  any_goals exact formOf_oscUop w unit _ fun _ _ => rfl
  any_goals exact formOf_smUop w unit _ fun _ => rfl
  any_goals exact formOf_paramUop w unit _ fun _ => rfl
  any_goals exact formOf_oscUop w unit _ formOf_oscNextUop
  any_goals exact formOf_pulseSetw_row w unit
  all_goals rfl

theorem formOf_decodeUop (w : Word) : formOf (decodeUop w) = .uop := by
  unfold decodeUop
  split
  · rfl
  · split
    · exact formOf_decodeOp _ _ _
    · rfl

/-! ### Every command answers a next state -/

/-- Running a UOP is its arm of `exec`: the arms of `runUop` that refuse are those of the other forms. -/
theorem runUop_eq_exec (i : Instr) (s : State) (h : formOf i = .uop) : runUop i s = exec i s := by
  cases i <;> simp only [formOf, reduceCtorEq] at h <;> rfl

/-- A write to UOP_CMD is the command its word encodes (30_encoding.md R113). -/
theorem exec_uopIssue (w : Word) (s : State) : exec (.uopIssue w) s = exec (decodeUop w) s :=
  runUop_eq_exec _ s (formOf_decodeUop w)

/-- Every meaning but that of UOP_CMD, which runs another command, is written as a next state. -/
theorem exec_next_of_form_ne_cmd (i : Instr) (s : State) (h : formOf i ≠ .cmd) : ∃ t, exec i s = .next t := by
  cases i with
  | uopIssue w => exact absurd rfl h
  | _ => exact ⟨_, rfl⟩

/-- No command stops the machine (60_exceptions.md R365). -/
theorem exec_next (i : Instr) (s : State) : ∃ t, exec i s = .next t := by
  cases i with
  | uopIssue w =>
    rw [exec_uopIssue]
    exact exec_next_of_form_ne_cmd _ s (by simp [formOf_decodeUop])
  | _ => exact exec_next_of_form_ne_cmd _ s (by simp [formOf])

/-! ### A request answers a next state -/

theorem State.portCommand_next (s : State) (f : Form) (off : Nat) (w : Word) : ∃ t, s.portCommand f off w = .next t := by
  unfold State.portCommand
  split
  · exact exec_next _ s
  all_goals exact ⟨_, rfl⟩

theorem State.portWrite_next (s : State) (r : Region) (off : Nat) (w : Word) : ∃ t, s.portWrite r off w = .next t := by
  cases r with
  | ctrl => exact s.portCommand_next .ctrl off w
  | evtPush => exact s.portCommand_next .push off w
  | fill => exact s.portCommand_next .fill off w
  | uopCmd => exact s.portCommand_next .cmd off w
  | _ => exact ⟨_, rfl⟩

theorem State.request_next (s : State) (a : Agent) (dir : Dir) (off : Nat) (data : Word) :
    ∃ t, s.request a dir off data = .next t := by
  cases dir with
  | read => exact ⟨_, s.request_read a off data⟩
  | write =>
    simp only [State.request]
    split
    · exact State.portWrite_next _ _ off data
    · exact ⟨_, rfl⟩

/-! ### The three answers to an access -/

/-- 20_memory.md R75. -/
theorem State.access_misshapen (s : State) (a : Agent) (x : Access) (h : x.width ≠ 4 ∨ x.addr % 4 ≠ 0) :
    s.access a x = .refused .accessShape := if_pos h

theorem State.access_of_base_le (s : State) (a : Agent) (x : Access) (hw : x.width = 4) (ha : x.addr % 4 = 0)
    (hb : s.cfg.base ≤ x.addr) : s.access a x = s.request a x.dir (x.addr - s.cfg.base) x.data := by
  simp [State.access, hw, ha, hb]

theorem State.access_of_lt_base (s : State) (a : Agent) (x : Access) (hw : x.width = 4) (ha : x.addr % 4 = 0)
    (hb : x.addr < s.cfg.base) :
    s.access a x = .next (s.deny a x.dir (BitVec.ofInt 24 (x.addr - s.cfg.base))) := by
  simp [State.access, hw, ha, hb]

/-- An aligned word access goes on whatever its address (20_memory.md R72). -/
theorem State.access_next (s : State) (a : Agent) (x : Access) (hw : x.width = 4) (ha : x.addr % 4 = 0) :
    ∃ t, s.access a x = .next t := by
  rcases Nat.lt_or_ge x.addr s.cfg.base with hb | hb
  · exact ⟨_, s.access_of_lt_base a x hw ha hb⟩
  · rw [s.access_of_base_le a x hw ha hb]
    exact s.request_next a _ _ _

/-- A denied write: ILLEGAL, no reply, and the draw counter of log 6. -/
theorem State.deny_write (s : State) (a : Agent) (info : BitVec 24) :
    s.deny a .write info =
      let denied := (s.raise .illegal info).setReply a none
      { denied with port := { denied.port with draws := s.port.draws + 1 } } := by
  cases a <;> rfl

/-! ### The agent that moves -/

@[simp] theorem State.nextAgent_w2Wait (s : State) : s.nextAgent.2.port.w2Wait = s.port.w2Wait := by
  unfold State.nextAgent
  split <;> rfl

@[simp] theorem State.nextAgent_pushWait (s : State) : s.nextAgent.2.port.pushWait = s.port.pushWait := by
  unfold State.nextAgent
  split <;> rfl

@[simp] theorem State.nextAgent_control (s : State) : s.nextAgent.2.port.control = s.port.control := by
  unfold State.nextAgent
  split <;> rfl

@[simp] theorem State.nextAgent_driver (s : State) : s.nextAgent.2.port.driver = s.port.driver := by
  unfold State.nextAgent
  split <;> rfl

theorem step_of_legal (s : State) (h : s.cfg.legal = true) : step s = s.nextAgent.2.agentStep s.nextAgent.1 := if_pos h

theorem State.audioStep_next (s : State) : ∃ t, s.audioStep = .next t := by
  unfold State.audioStep
  split
  · split
    · exact exec_next _ _
    · exact ⟨_, rfl⟩
  · exact ⟨_, rfl⟩

/-- CONTROL goes on where it owes a W2 or a push, or has no access left. -/
theorem State.controlStep_next (s : State)
    (h : s.port.w2Wait = none → s.port.pushWait = none → s.port.control = []) : ∃ t, s.controlStep = .next t := by
  unfold State.controlStep
  cases hw2 : s.port.w2Wait with
  | some id => exact ⟨_, rfl⟩
  | none =>
    cases hpush : s.port.pushWait with
    | some w => exact exec_next _ s
    | none => exact ⟨s, by simp only [h hw2 hpush]⟩

/-- CONTROL's access, where it owes no W2 and no push. -/
theorem State.controlStep_of_access (s : State) (x : Access) (xs : List Access) (hw2 : s.port.w2Wait = none)
    (hpush : s.port.pushWait = none) (hx : s.port.control = x :: xs) :
    s.controlStep = ({ s with port := { s.port with control := xs } } : State).access .control x := by
  simp only [State.controlStep, hw2, hpush, hx]

theorem State.driverStep_of_access (s : State) (x : Access) (xs : List Access) (hx : s.port.driver = x :: xs) :
    s.driverStep = ({ s with port := { s.port with driver := xs } } : State).access .driver x := by
  simp only [State.driverStep, hx]

theorem State.driverStep_of_no_access (s : State) (hx : s.port.driver = []) : s.driverStep = .next s := by
  simp only [State.driverStep, hx]

/-- A step in which an agent issues an access is that access, on a state with the turn and the access taken. -/
theorem step_of_issues (s : State) (a : Agent) (x : Access) (hl : s.cfg.legal = true) (h : s.issues a x) :
    ∃ u : State, step s = u.access a x := by
  rw [step_of_legal s hl]
  obtain ⟨rfl, ⟨ha, hw2, hpush, xs, hx⟩ | ⟨ha, xs, hx⟩⟩ := h <;> rw [ha]
  · exact ⟨_, State.controlStep_of_access _ x xs (by simpa) (by simpa) (by simpa)⟩
  · exact ⟨_, State.driverStep_of_access _ x xs (by simpa)⟩

/-- A step in which no agent issues an access goes on. -/
theorem step_next_of_no_access (s : State) (hl : s.cfg.legal = true) (h : ∀ a x, ¬s.issues a x) :
    ∃ t, step s = .next t := by
  rw [step_of_legal s hl]
  cases ha : s.nextAgent.1 with
  | control =>
    refine s.nextAgent.2.controlStep_next ?_
    simp only [State.nextAgent_w2Wait, State.nextAgent_pushWait, State.nextAgent_control]
    intro hw2 hpush
    cases hc : s.port.control with
    | nil => rfl
    | cons x xs => exact absurd ⟨ha, .inl ⟨rfl, hw2, hpush, xs, hc⟩⟩ (h .control x)
  | driver =>
    cases hd : s.port.driver with
    | nil => exact ⟨_, State.driverStep_of_no_access _ (by simpa)⟩
    | cons x xs => exact absurd ⟨ha, .inr ⟨rfl, xs, hd⟩⟩ (h .driver x)
  | audio => exact s.nextAgent.2.audioStep_next

/-! ### The statement, clause by clause -/

theorem step_of_illegal_config (s : State) (h : s.cfg.legal = false) : step s = .refused .illegalConfig := by
  simp [step, h]

theorem step_refused_of_misshapen_access (s : State) (hl : s.cfg.legal = true)
    (h : ∃ a x, s.issues a x ∧ (x.width ≠ 4 ∨ x.addr % 4 ≠ 0)) : step s = .refused .accessShape := by
  obtain ⟨a, x, hi, hx⟩ := h
  obtain ⟨u, hu⟩ := step_of_issues s a x hl hi
  rw [hu, u.access_misshapen a x hx]

theorem step_next_of_word_access (s : State) (hl : s.cfg.legal = true)
    (h : ∀ a x, s.issues a x → x.width = 4 ∧ x.addr % 4 = 0) : ∃ t, step s = .next t := by
  by_cases hi : ∃ a x, s.issues a x
  · obtain ⟨a, x, hi⟩ := hi
    obtain ⟨hw, ha⟩ := h a x hi
    obtain ⟨u, hu⟩ := step_of_issues s a x hl hi
    rw [hu]
    exact u.access_next a x hw ha
  · exact step_next_of_no_access s hl fun a x hx => hi ⟨a, x, hx⟩

/-- Settles O48: an access is the only thing a step under a legal configuration can stop at, since every command answers a
next state. -/
theorem stopsOfAccess : Obligations.StopsOfAccess := by
  unfold Obligations.StopsOfAccess
  refine ⟨step_of_illegal_config, fun s hl => ⟨step_refused_of_misshapen_access s hl, step_next_of_word_access s hl⟩,
    fun s a x => ⟨s.access_misshapen a x, fun hw ha => ?_⟩⟩
  obtain ⟨t, ht⟩ := s.access_next a x hw ha
  refine ⟨t, ht, fun hb => ?_, fun hb => ?_⟩
  · rw [← s.access_of_base_le a x hw ha hb, ht]
  · have hd : t = s.deny a x.dir (BitVec.ofInt 24 (x.addr - s.cfg.base)) := by
      simpa [ht] using s.access_of_lt_base a x hw ha hb
    rw [hd]
    cases x.dir with
    | read => rfl
    | write => exact s.deny_write a _

end Sys2Proof.Machine
end

section
/-! Family 10_state, voices and cells: what 10_state.md R42 says of one smoother, filter, envelope, voice and parameter cell, and
which functions keep it. -/

namespace Sys2Proof.Machine

/-- 10_state.md R42 item 1, for one envelope. -/
def Env.quiet (e : Env) : Prop := e.state = .idle → e.level = 0

/-- 10_state.md R42 item 5, for one filter. -/
def Ladder.bounded (l : Ladder) : Prop := -lim8 ≤ s32 l.s4 ∧ s32 l.s4 ≤ lim8

/-- What `SmootherInv` and `VoiceInv` say of one voice. -/
def Voice.sound (x : Voice) : Prop := (∀ k, (x.getSm k).settled) ∧ x.env.quiet ∧ x.lad.bounded

theorem Voice.sound.settled {x : Voice} (h : x.sound) (k : VoiceSm) : (x.getSm k).settled := h.1 k

theorem Voice.sound.quiet {x : Voice} (h : x.sound) : x.env.quiet := h.2.1

theorem Voice.sound.bounded {x : Voice} (h : x.sound) : x.lad.bounded := h.2.2

/-! ### Smoothers -/

theorem Smoother.settled_rest (x : Word) (ramp : Nat) : (Smoother.rest x ramp).settled := fun _ => rfl

theorem Smoother.settled_setValue (m : Smoother) (x : Word) : (m.setValue x).settled := fun _ => rfl

/-- A taken target is either reached at once or a ramp of at least one step away. -/
theorem Smoother.settled_take (m : Smoother) (t : Word) : (m.take t).settled := by
  unfold Smoother.take
  split
  · exact fun _ => rfl
  · rename_i hramp
    exact fun h => absurd h hramp

/-- The last step of a ramp lands on the target; before it at least one step remains. -/
theorem Smoother.settled_advance (m : Smoother) (h : m.settled) : m.advance.settled := by
  unfold Smoother.advance
  split
  · exact h
  · split
    · exact fun _ => rfl
    · rename_i hone
      exact fun hz => absurd (sub_eq_zero.mp hz) hone

theorem Smoother.settled_next (m : Smoother) (h : m.settled) : m.next.settled := by
  unfold Smoother.next
  split
  · exact (m.take m.pending).settled_advance (m.settled_take _)
  · exact m.settled_advance h

/-! ### The filter -/

theorem s32_wrap32 (n : Int) (hlo : -2 ^ 31 ≤ n) (hhi : n < 2 ^ 31) : s32 (wrap32 n) = n :=
  BitVec.toInt_ofInt_eq_self (by decide) hlo hhi

/-- A clamped value lies between its bounds. -/
theorem s32_fclamp_wrap32_mem (x : Word) (lo hi : Int) (hlo : -2 ^ 31 ≤ lo) (hle : lo ≤ hi) (hhi : hi < 2 ^ 31) :
    lo ≤ s32 (fclamp x (wrap32 lo) (wrap32 hi)) ∧ s32 (fclamp x (wrap32 lo) (wrap32 hi)) ≤ hi := by
  have hmin : lo ≤ iclamp (s32 x) lo hi := le_max_left _ _
  have hmax : iclamp (s32 x) lo hi ≤ hi := max_le hle (min_le_left _ _)
  rw [fclamp, s32_wrap32 lo hlo (by omega), s32_wrap32 hi (by omega) hhi, s32_wrap32 _ (by omega) (by omega)]
  exact ⟨hmin, hmax⟩

theorem Ladder.bounded_step (l : Ladder) (x g res : Word) : (l.step x g res).bounded :=
  s32_fclamp_wrap32_mem _ _ _ (by decide) (by decide) (by decide)

/-! ### The envelope -/

theorem Env.quiet_noteOn (e : Env) (h : e.quiet) : e.noteOn.quiet := by
  unfold Env.noteOn
  split
  · exact h
  · split <;> exact nofun

theorem Env.quiet_noteOff (e : Env) (h : e.quiet) : e.noteOff.quiet := by
  unfold Env.noteOff
  split
  · exact h
  · exact nofun

theorem Env.quiet_setTime (e : Env) (f : TimeField) (n : Word) (h : e.quiet) : (e.setTime f n).quiet := by
  cases f <;> exact h

theorem Env.quiet_updateTime (e : Env) (f : TimeField) (n : Nat) (h : e.quiet) : (e.updateTime f n).quiet := by
  unfold Env.updateTime
  split
  · exact h
  · split <;> exact Env.quiet_setTime _ _ _ h

theorem Env.quiet_transition (e : Env) (h : e.quiet) : e.transition.quiet := by
  unfold Env.transition
  split
  case h_3 => exact fun _ => rfl
  case h_5 | h_6 => exact h
  all_goals exact nofun

theorem Env.quiet_stateMachine (e : Env) (target : Word) (h : e.quiet) : (e.stateMachine target).quiet := by
  cases hs : e.state with
  | idle => simp [Env.stateMachine, Env.quiet, hs]
  | sustain => simp [Env.stateMachine, Env.quiet, hs]
  | _ =>
    simp only [Env.stateMachine, hs]
    split
    · exact e.quiet_transition h
    · exact nofun

/-! ### The voice -/

theorem Voice.sound_reset (c : Cfg) : (Voice.reset c).sound :=
  ⟨fun k => by cases k <;> exact Smoother.settled_rest _ _, fun _ => rfl,
    show -lim8 ≤ s32 0 ∧ s32 0 ≤ lim8 by decide⟩

@[simp] theorem Voice.setSm_env (x : Voice) (k : VoiceSm) (m : Smoother) : (x.setSm k m).env = x.env := by
  cases k <;> rfl

@[simp] theorem Voice.setSm_lad (x : Voice) (k : VoiceSm) (m : Smoother) : (x.setSm k m).lad = x.lad := by
  cases k <;> rfl

section
variable {x : Voice} (h : x.sound)
include h

theorem Voice.sound.setSm (k : VoiceSm) {m : Smoother} (hm : m.settled) : (x.setSm k m).sound := by
  refine ⟨fun j => ?_, by simpa using ⟨h.quiet, h.bounded⟩⟩
  by_cases hj : k = j
  · subst hj
    rwa [Voice.getSm_setSm_self]
  · rw [Voice.getSm_setSm_other _ _ _ _ hj]
    exact h.settled j

theorem Voice.sound.nextSm (k : VoiceSm) : (x.nextSm k).sound := h.setSm k (Smoother.settled_next _ (h.settled k))

theorem Voice.sound.withEnv {e : Env} (he : e.quiet) : ({ x with env := e } : Voice).sound := ⟨h.settled, he, h.bounded⟩

theorem Voice.sound.withLadder {l : Ladder} (hl : l.bounded) : ({ x with lad := l } : Voice).sound :=
  ⟨h.settled, h.quiet, hl⟩

theorem Voice.sound.oscReset (k : Kind) : (x.oscReset k).sound := by
  cases k <;> exact h

theorem Voice.sound.oscSetInc (k : Kind) (i : Word) : (x.oscSetInc k i).sound := by
  cases k <;> exact h

theorem Voice.sound.sawNext : x.sawNext.2.sound := h

theorem Voice.sound.pulseNext : x.pulseNext.2.sound := h

theorem Voice.sound.subNext : x.subNext.2.sound := h

theorem Voice.sound.withSeed (seed : Word) : ({ x with seed := seed } : Voice).sound := h

theorem Voice.sound.noiseNext : x.noiseNext.2.sound := h.withSeed _

theorem Voice.sound.startNote (c : Cfg) (n : BitVec 7) : (x.startNote c n).sound := h

theorem Voice.sound.noteOn (c : Cfg) (n : BitVec 7) (vel : Word) : (x.noteOn c n vel).sound :=
  ((h.startNote c n).setSm .vel (m := (x.startNote c n).vel.setTarget vel) (h.settled .vel)).withEnv
    (x.env.quiet_noteOn h.quiet)

theorem Voice.sound.noteOff : x.noteOff.sound := ⟨h.settled, x.env.quiet_noteOff h.quiet, h.bounded⟩

theorem Voice.sound.latchSustain : x.latchSustain.sound := h.withEnv h.quiet

theorem Voice.sound.latchTime (f : TimeField) : (x.latchTime f).sound := h.withEnv (x.env.quiet_updateTime _ _ h.quiet)

theorem Voice.sound.tickState : x.tickState.sound := h.withEnv (x.env.quiet_stateMachine _ h.quiet)

theorem Voice.sound.envTick : x.envTick.sound :=
  ((((((((h.nextSm .sus).latchSustain).nextSm .att).latchTime .attack).nextSm .dec).latchTime .decay).nextSm .rel).latchTime
    .release).tickState

theorem Voice.sound.withWidth (w : Word) : ({ x with width := w } : Voice).sound := h

theorem Voice.sound.oscMix (m : Mix) : (x.oscMix m).2.sound :=
  (h.withWidth (pwClamp m.pulseW.current)).sawNext.pulseNext.subNext.noiseNext

theorem Voice.sound.filter (c : Cfg) (p : Sampled) (mix : Word) : (x.filter c p mix).2.sound :=
  h.withLadder (Ladder.bounded_step _ _ _ _)

theorem Voice.sound.render (c : Cfg) (m : Mix) (p : Sampled) : (x.render c m p).2.sound :=
  (((h.oscMix m).envTick).filter c p _).nextSm .vel

end

/-! ### Parameter cells (10_state.md R42 item 4, 45_parameters.md R241) -/

/-- Every value a load of the cell can return is in the range of parameter `i`. -/
def Cell.inRange (i : Nat) (c : Cell) : Prop := ∀ w ∈ c.visible, InRange i w

theorem inRange_paramMeta : ∀ i < 12, InRange i (paramMeta i).min ∧ InRange i (paramMeta i).max ∧
    InRange i (paramMeta i).default := by
  unfold InRange
  decide +kernel

/-- Magnitude bits up to those of an infinity make no NaN. -/
theorem fIsNaN_fPack (neg : Bool) (mag : Nat) (h : mag ≤ 0x7F800000) : fIsNaN (fPack neg mag) = false := by
  have hbits : fAbsBits (fPack neg mag) = mag := by
    simp only [fAbsBits, fPack, BitVec.toNat_ofNat]
    cases neg <;> simp <;> omega
  rw [fIsNaN, hbits, ← Bool.not_eq_true, Nat.blt_eq]
  omega

theorem fIsNaN_fpAdd (x y : Word) : fIsNaN (fpAdd x y) = false := by
  unfold fpAdd
  dsimp only
  split
  · exact fIsNaN_fPack _ _ (Nat.zero_le _)
  · exact fIsNaN_fPack _ _ (min_le_left _ _)

theorem fIsNaN_paramDenormalize (i : Nat) (n : Word) : fIsNaN (paramDenormalize i n) = false := fIsNaN_fpAdd _ _

/-- What `param_set_value` stores is in range (45_parameters.md R242). -/
theorem inRange_paramClamp (i : Nat) (x : Word) (hi : i < 12) (hx : fIsNaN x = false) : InRange i (paramClamp i x) := by
  obtain ⟨hmin, hmax, -⟩ := inRange_paramMeta i hi
  unfold paramClamp
  split
  · exact hmin
  · rename_i hlo
    split
    · exact hmax
    · rename_i hhi
      exact ⟨hx, by simpa [fpLt] using hlo, by simpa [fpLt] using hhi⟩

theorem Cell.inRange_store {i : Nat} {c : Cell} {x : Word} (h : c.inRange i) (hx : InRange i x) : (c.store x).inRange i := by
  intro w hw
  rcases List.mem_append.mp hw with hold | hnew
  · exact h w hold
  · rwa [List.mem_singleton.mp hnew]

theorem Cell.visible_forget_subset (c : Cell) (n : Nat) : (c.forget n).visible ⊆ c.visible := by
  intro w hw
  rcases List.mem_append.mp hw with hold | hnew
  · exact List.mem_append_left _ (List.mem_of_mem_drop hold)
  · exact List.mem_append_right _ hnew

theorem Cell.inRange_forget {i : Nat} {c : Cell} (n : Nat) (h : c.inRange i) : (c.forget n).inRange i :=
  fun w hw => h w (c.visible_forget_subset n hw)

theorem length_forgetAll (cs : List Cell) (ns : List Nat) : (forgetAll cs ns).length = cs.length := by
  induction cs, ns using forgetAll.induct with
  | case1 | case2 => simp [forgetAll]
  | case3 c cs n ns ih => simp [forgetAll, ih]

theorem inRange_forgetAll (i j : Nat) (cs : List Cell) (ns : List Nat) (h : (cs.getD j ⟨0, [], 0⟩).inRange i) :
    ((forgetAll cs ns).getD j ⟨0, [], 0⟩).inRange i := by
  induction cs, ns using forgetAll.induct generalizing j with
  | case1 | case2 => simpa [forgetAll] using h
  | case3 c cs n ns ih =>
    cases j with
    | zero => exact Cell.inRange_forget n h
    | succ j => exact ih j h

end Sys2Proof.Machine
end

section
/-! Family 10_state, effects: all a UOP can do to the state, and all a step of CONTROL or DRIVER can do. The invariants and the
isolation of AUDIO's state are read off these two. -/

namespace Sys2Proof.Machine

/-! ### UOPs (30_encoding.md R116) -/

/-- All a UOP can do. The last three, and they alone, write audio-exclusive state, which a UOP does only while no fill is in
progress (30_encoding.md R116). -/
inductive UopEffect (s : State) : State → Prop where
  | keep : UopEffect s s
  | result {t : State} (r : Word) (h : UopEffect s t) : UopEffect s (t.setR r)
  | fault (code : FaultCode) (info : BitVec 24) : UopEffect s (s.raise code info)
  | storeCell (i : Nat) (x : Word) (hx : fIsNaN x = false) : UopEffect s (s.storeCell i x)
  /-- W1 or W2 of a set_target, and what CONTROL owes then (44_smoother.md R222). -/
  | mailbox (id : SmId) {m : Smoother} (p : Port) (hm : m.noMailbox = (s.sm id).noMailbox) :
      UopEffect s { s.setSm id m with port := p }
  | sine (o : Osc) (hb : s.seq.busy = false) : UopEffect s { s with sine0 := o }
  | voice (v : Nat) {x : Voice} (hb : s.seq.busy = false) (hx : (s.voice v).sound → x.sound) : UopEffect s (s.setVoice v x)
  | smoother (id : SmId) {m : Smoother} (hb : s.seq.busy = false) (hm : (s.sm id).settled → m.settled) :
      UopEffect s (s.setSm id m)

/-- The checks of `State.uop` record a fault or let the UOP's own effect through. -/
theorem UopEffect.checked {s t : State} {admitted exclusive : Bool} {info : BitVec 24}
    (h : (exclusive = true → s.seq.busy = false) → UopEffect s t) :
    UopEffect s
      (if !admitted then s.raise .illegal info else if exclusive && s.seq.busy then s.raise .busy info else t) := by
  split
  · exact .fault _ _
  · split
    · exact .fault _ _
    · rename_i hfree
      exact h fun hx => by simpa [hx] using hfree

theorem UopEffect.oscReset (s : State) (v : Nat) (k : Kind) (hb : s.seq.busy = false) : UopEffect s (s.oscReset v k) := by
  cases k with
  | sine => exact .sine _ hb
  | _ => exact .voice v hb fun hx => hx.oscReset _

theorem UopEffect.oscSetInc (s : State) (v : Nat) (k : Kind) (i : Word) (hb : s.seq.busy = false) :
    UopEffect s (s.oscSetInc v k i) := by
  cases k with
  | sine => exact .sine _ hb
  | noise => exact .keep
  | _ => exact .voice v hb fun hx => hx.oscSetInc _ i

/-- A sample function: the voice advances, and the sample is the result. -/
theorem UopEffect.emit (s : State) (v : Nat) (r : Word × Voice) (hb : s.seq.busy = false)
    (hx : (s.voice v).sound → r.2.sound) : UopEffect s (s.emit v r) := .result _ (.voice v hb hx)

/-- Every UOP has one of the effects. -/
theorem exec_uop_effect (i : Instr) (s : State) (hi : formOf i = .uop) : ∃ t, exec i s = .next t ∧ UopEffect s t := by
  cases i with
  | nop => exact ⟨_, rfl, .keep⟩
  | add | sub | mul | clamp | addclamp | shra | fromint | toint | tofloat | sineLut | ladderG | ladderRes | cutoffMod
  | paramGetn => exact ⟨_, rfl, .result _ .keep⟩
  | svfStep | illegalUop => exact ⟨_, rfl, .fault _ _⟩
  | div | fromfloat =>
    refine ⟨_, rfl, ?_⟩
    split
    · exact .fault _ _
    · exact .result _ .keep
  | paramSet i =>
    refine ⟨_, rfl, ?_⟩
    split
    · exact .fault _ _
    · rename_i hx
      exact .storeCell _ _ (by simpa using hx)
  | paramSetn i =>
    refine ⟨_, rfl, ?_⟩
    split
    · exact .fault _ _
    · exact .storeCell _ _ (fIsNaN_paramDenormalize _ _)
  | paramGet i =>
    refine ⟨_, rfl, ?_⟩
    split
    · exact .result _ .keep
    · exact .fault _ _
  | oscReset v k => exact ⟨_, rfl, .checked fun hb => .oscReset s v k (hb rfl)⟩
  | oscSetinc v k => exact ⟨_, rfl, .checked fun hb => .oscSetInc s v k _ (hb rfl)⟩
  | oscSetfreq v k =>
    refine ⟨_, rfl, .checked fun hb => ?_⟩
    dsimp only
    split
    · exact .keep
    · split
      · exact .fault _ _
      · split <;> exact .oscSetInc s v k _ (hb rfl)
  | oscRead v k =>
    refine ⟨_, rfl, .checked fun _ => ?_⟩
    dsimp only
    split
    case h_4 => exact .fault _ _
    all_goals exact .result _ .keep
  | sawNext v => exact ⟨_, rfl, .checked fun hb => .emit s v _ (hb rfl) Voice.sound.sawNext⟩
  | pulseNext v => exact ⟨_, rfl, .checked fun hb => .emit s v _ (hb rfl) Voice.sound.pulseNext⟩
  | subNext v => exact ⟨_, rfl, .checked fun hb => .emit s v _ (hb rfl) Voice.sound.subNext⟩
  | noiseNext v => exact ⟨_, rfl, .checked fun hb => .emit s v _ (hb rfl) Voice.sound.noiseNext⟩
  | sineNext => exact ⟨_, rfl, .checked fun hb => .result _ (.sine _ (hb rfl))⟩
  | pulseSetw v => exact ⟨_, rfl, .checked fun hb => .voice v (hb rfl) id⟩
  | smReset id => exact ⟨_, rfl, .checked fun hb => .smoother id (hb rfl) fun hm => hm⟩
  | smSetvalue id => exact ⟨_, rfl, .checked fun hb => .smoother id (hb rfl) fun _ => Smoother.settled_setValue _ _⟩
  | smSettarget id => exact ⟨_, rfl, .checked fun _ => .mailbox id _ rfl⟩
  | smNext id => exact ⟨_, rfl, .checked fun hb => .result _ (.smoother id (hb rfl) (Smoother.settled_next _))⟩
  | envNoteOn v => exact ⟨_, rfl, .checked fun hb =>
      .voice v (hb rfl) fun hx => hx.withEnv (Env.quiet_noteOn _ hx.quiet)⟩
  | envNoteOff v => exact ⟨_, rfl, .checked fun hb =>
      .voice v (hb rfl) fun hx => hx.withEnv (Env.quiet_noteOff _ hx.quiet)⟩
  | envTick v => exact ⟨_, rfl, .checked fun hb => .result _ (.voice v (hb rfl) Voice.sound.envTick)⟩
  | ladderStep v =>
    exact ⟨_, rfl, .checked fun hb =>
      .result _ (.voice v (hb rfl) fun hx => hx.withLadder (Ladder.bounded_step _ _ _ _))⟩
  | voiceNoteOn v => exact ⟨_, rfl, .checked fun hb => .voice v (hb rfl) fun hx => hx.noteOn _ _ _⟩
  | voiceNoteOff v => exact ⟨_, rfl, .checked fun hb => .voice v (hb rfl) Voice.sound.noteOff⟩
  | voiceRender v => exact ⟨_, rfl, .checked fun hb => .emit s v _ (hb rfl) fun hx => hx.render _ _ _⟩
  | smRead | envRead | ladderRead =>
    refine ⟨_, rfl, .checked fun _ => ?_⟩
    dsimp only
    split
    · exact .result _ .keep
    · exact .fault _ _
  | envLevel | voiceRead | vmSelect => exact ⟨_, rfl, .checked fun _ => .result _ .keep⟩
  | _ => simp only [formOf, reduceCtorEq] at hi

/-! ### The commands of the ports (30_encoding.md R119, R120) -/

theorem formOf_decodeEvt (w : Word) : formOf (decodeEvt w) = .evt := by
  simp only [decodeEvt]
  split_ifs <;> rfl

theorem formOf_decode (f : Form) (w : Word) (i : Instr) (h : decode f w = .ok i) : formOf i = f := by
  cases f with
  | uop => cases h; exact formOf_decodeUop w
  | evt => cases h; exact formOf_decodeEvt w
  | push | cmd => cases h; rfl
  | ctrl | fill =>
    simp only [decode] at h
    split_ifs at h <;> cases h <;> rfl

theorem eq_one_of_decode_reset (f : Form) (w : Word) (h : decode f w = .ok .reset) : f = .ctrl ∧ w = 1 := by
  obtain rfl : f = .ctrl := (formOf_decode f w _ h).symm
  refine ⟨rfl, ?_⟩
  by_contra hw
  simp only [decode, if_neg hw] at h
  split_ifs at h

theorem regionOf_eq_ctrl (c : Cfg) (off : Nat) (h : regionOf c off = .ctrl) : off = 0 := by
  unfold regionOf at h
  split_ifs at h
  unfold regRegion at h
  split at h
  case h_1 => rfl
  all_goals cases h

/-! ### What a step of CONTROL or DRIVER can do -/

/-- All a step of CONTROL or DRIVER can do; a block reset only where `R` holds. -/
inductive PortEffect (R : Prop) : State → State → Prop where
  | uop {s t : State} (h : UopEffect s t) : PortEffect R s t
  | regs {s : State} (r : Regs) : PortEffect R s { s with regs := r }
  | store {s : State} (b : Bool) (i : Nat) (w : Word) : PortEffect R s (s.storeOut b i w)
  | push {s : State} (x : Slot) (p : Port) (h : s.fifo.count < s.cfg.fifoDepth) :
      PortEffect R s { s with fifo := s.fifo.push s.cfg.fifoDepth x, port := p }
  | fill {s : State} (b : Bool) (hb : s.seq.busy = false) :
      PortEffect R s
        { s with
          seq := { s.seq with busy := true, buf := b, phase := .clear, frame := 0 }
          work := { s.work with todo := [.clear 0], past := [] } }
  | reset {s : State} (p : Port) (hr : R) : PortEffect R s { State.powerOn s.cfg with mem := s.mem, port := p }
  /-- The model's own fields of the agents may change before. -/
  | port {s t : State} (p : Port) (h : PortEffect R { s with port := p } t) : PortEffect R s t

theorem PortEffect.keep {R : Prop} (s : State) : PortEffect R s s := .uop .keep

theorem PortEffect.fault {R : Prop} (s : State) (code : FaultCode) (info : BitVec 24) :
    PortEffect R s (s.raise code info) := .uop (.fault code info)

section
variable {R : Prop} {s t : State}

theorem PortEffect.of_exec_uop (i : Instr) (hi : formOf i = .uop) (h : exec i s = .next t) : PortEffect R s t := by
  obtain ⟨u, hu, he⟩ := exec_uop_effect i s hi
  cases hu.symm.trans h
  exact .uop he

theorem PortEffect.of_exec (i : Instr) (hi : formOf i ≠ .evt) (hr : i = .reset → R) (h : exec i s = .next t) :
    PortEffect R s t := by
  cases i with
  | reset => cases h; exact .reset _ (hr rfl)
  | fill b =>
    cases h
    split
    · exact .fault s _ _
    · rename_i hb
      exact .fill b (by simpa using hb)
  | evtPush w =>
    cases h
    split
    · rename_i hfree
      exact .push _ _ hfree
    · exact .port _ (.keep _)
  | uopIssue w =>
    rw [exec_uopIssue] at h
    exact .of_exec_uop _ (formOf_decodeUop w) h
  | evtNoteOn | evtNoteOnV0 | evtNoteOff | evtAllNotesOff | evtCcIgnored | evtOtherIgnored => exact absurd rfl hi
  | _ => exact .of_exec_uop _ rfl h

theorem PortEffect.of_portCommand (f : Form) (off : Nat) (w : Word) (hf : f ≠ .evt) (hr : f = .ctrl → w = 1 → R)
    (h : s.portCommand f off w = .next t) : PortEffect R s t := by
  unfold State.portCommand at h
  split at h
  · rename_i i hd
    refine .of_exec i (by rwa [formOf_decode f w i hd]) ?_ h
    rintro rfl
    obtain ⟨hctrl, hone⟩ := eq_one_of_decode_reset f w hd
    exact hr hctrl hone
  · cases h; exact .keep _
  all_goals cases h; exact .fault s _ _

theorem PortEffect.of_portWrite (r : Region) (off : Nat) (w : Word) (hr : r = .ctrl → w = 1 → R)
    (h : s.portWrite r off w = .next t) : PortEffect R s t := by
  cases r with
  | ctrl => exact .of_portCommand .ctrl off w nofun (fun _ => hr rfl) h
  | evtPush => exact .of_portCommand .push off w nofun nofun h
  | fill => exact .of_portCommand .fill off w nofun nofun h
  | uopCmd => exact .of_portCommand .cmd off w nofun nofun h
  | uopA | uopB | uopC | uopD => cases h; exact .regs _
  | outbuf b i => cases h; exact .store b i w
  | _ => cases h; exact .fault s _ _

theorem State.written_eq (s : State) (a : Agent) : s.written a = { s with port := (s.written a).port } := by
  cases a <;> rfl

theorem State.setReply_eq (s : State) (a : Agent) (x : Option Word) :
    s.setReply a x = { s with port := (s.setReply a x).port } := by
  cases a <;> rfl

theorem PortEffect.written (a : Agent) (h : PortEffect R (s.written a) t) : PortEffect R s t := by
  rw [s.written_eq a] at h
  exact .port _ h

theorem PortEffect.deny (a : Agent) (dir : Dir) (info : BitVec 24) : PortEffect R s (s.deny a dir info) := by
  rw [s.deny_eq]
  exact .port (s.deny a dir info).port (.fault _ .illegal info)

theorem PortEffect.of_request (a : Agent) (dir : Dir) (off : Nat) (d : Word)
    (hr : a = .control → dir = .write → off = 0 → d = 1 → R) (h : s.request a dir off d = .next t) : PortEffect R s t := by
  cases dir with
  | read =>
    rw [s.request_read] at h
    cases h
    split
    · rw [s.setReply_eq]
      exact .port _ (.keep _)
    · exact .deny _ _ _
  | write =>
    simp only [State.request] at h
    split at h
    · rename_i hmay
      refine .written a (.of_portWrite _ off d (fun hctrl hone => ?_) h)
      rw [hctrl] at hmay
      cases a with
      | control => exact hr rfl rfl (regionOf_eq_ctrl _ _ hctrl) hone
      | driver | audio => cases hmay
    · cases h
      exact .deny _ _ _

theorem PortEffect.of_access (a : Agent) (x : Access) (hr : a = .control → x = ⟨.write, s.cfg.base, 4, 1⟩ → R)
    (h : s.access a x = .next t) : PortEffect R s t := by
  unfold State.access at h
  split_ifs at h with hshape hbelow
  · cases h
    exact .deny _ _ _
  · refine .of_request a x.dir _ x.data (fun ha hdir hoff hone => hr ha ?_) h
    obtain ⟨dir, addr, width, data⟩ := x
    simp only [not_or, not_not] at hshape hdir hone hoff hbelow
    simp only [Access.mk.injEq]
    exact ⟨hdir, by omega, hshape.1, hone⟩

end

theorem State.nextAgent_eq (s : State) : s.nextAgent.2 = { s with port := s.nextAgent.2.port } := by
  unfold State.nextAgent
  split <;> rfl

theorem PortEffect.of_controlStep {R : Prop} {s t : State}
    (hr : s.port.w2Wait = none → s.port.pushWait = none →
      (∃ xs, s.port.control = ⟨.write, s.cfg.base, 4, 1⟩ :: xs) → R)
    (h : s.controlStep = .next t) : PortEffect R s t := by
  unfold State.controlStep at h
  split at h
  · cases h
    exact .uop (.mailbox _ _ rfl)
  · rename_i hw2
    split at h
    · rename_i w _
      exact .of_exec (.evtPush w) nofun nofun h
    · rename_i hpush
      split at h
      · cases h
        exact .keep _
      · rename_i x xs hx
        refine .port _ (.of_access .control x (fun _ hreset => hr hw2 hpush ⟨xs, ?_⟩) h)
        rw [hx, hreset]

theorem PortEffect.of_driverStep {R : Prop} {s t : State} (h : s.driverStep = .next t) : PortEffect R s t := by
  unfold State.driverStep at h
  split at h
  · cases h
    exact .keep _
  · exact .port _ (.of_access .driver _ nofun h)

/-- A step that is not AUDIO's has one of the effects, and resets the block only by the write of 1 to CTRL. -/
theorem PortEffect.of_step {s t : State} (ha : s.nextAgent.1 ≠ .audio) (h : step s = .next t) :
    PortEffect s.resetsNext s t := by
  unfold step at h
  split_ifs at h
  refine .port s.nextAgent.2.port ?_
  rw [← s.nextAgent_eq]
  cases hag : s.nextAgent.1 with
  | control =>
    rw [hag] at h
    refine .of_controlStep (fun hw2 hpush hx => ⟨hag, ?_, ?_, ?_⟩) h
    · simpa using hw2
    · simpa using hpush
    · rw [s.nextAgent_eq] at hx
      simpa using hx
  | driver =>
    rw [hag] at h
    exact .of_driverStep h
  | audio => exact absurd hag ha

end Sys2Proof.Machine
end

section
/-! Family 10_state, isolation: a fill in progress keeps CONTROL and DRIVER out of AUDIO's state (20_memory.md R70 item 2). -/

namespace Sys2Proof.Machine

theorem Voice.noMailboxes_setSm (x : Voice) (k : VoiceSm) {m : Smoother} (hm : m.noMailbox = (x.getSm k).noMailbox) :
    (x.setSm k m).noMailboxes = x.noMailboxes := by
  cases k <;> simp only [Voice.noMailboxes, Voice.setSm, hm] <;> rfl

theorem Mix.noMailboxes_set (x : Mix) (g : GlobalSm) {m : Smoother} (hm : m.noMailbox = (x.get g).noMailbox) :
    (x.set g m).noMailboxes = x.noMailboxes := by
  cases g <;> simp only [Mix.noMailboxes, Mix.set, hm] <;> rfl

/-- What a set_target writes is no part of AUDIO's view; a smoother of no voice is written nowhere. -/
theorem State.audioView_setSm (s : State) (id : SmId) {m : Smoother} (hm : m.noMailbox = (s.sm id).noMailbox) :
    (s.setSm id m).audioView = s.audioView := by
  cases id with
  | global g => simp only [State.audioView, State.setSm, Mix.noMailboxes_set _ _ hm]
  | voice v k =>
    have hv : (s.voices.set v ((s.voice v).setSm k m)).map Voice.noMailboxes = s.voices.map Voice.noMailboxes := by
      rw [List.map_set, Voice.noMailboxes_setSm _ _ hm]
      rcases Nat.lt_or_ge v s.voices.length with hlt | hge
      · simp [State.voice, hlt, ← List.map_set]
      · exact List.set_eq_of_length_le (by simpa)
    simp only [State.audioView, State.setSm, State.setVoice, hv]

theorem State.audioView_storeOut (s : State) (b : Bool) (i : Nat) (w : Word) :
    (s.storeOut b i w).audioView = s.audioView := by
  simp only [State.storeOut]
  split <;> rfl

theorem UopEffect.audioView {s t : State} (h : UopEffect s t) (hb : s.seq.busy = true) : t.audioView = s.audioView := by
  induction h with
  | keep | fault | storeCell => rfl
  | result r _ ih => exact ih
  | mailbox id p hm => exact s.audioView_setSm id hm
  | sine _ hidle | voice _ hidle | smoother _ hidle => simp [hb] at hidle

theorem PortEffect.audioView {R : Prop} {s t : State} (h : PortEffect R s t) (hR : ¬R) (hb : s.seq.busy = true) :
    t.audioView = s.audioView := by
  induction h with
  | uop h => exact h.audioView hb
  | regs | push => rfl
  | store b i w => exact State.audioView_storeOut _ b i w
  | fill _ hidle => simp [hb] at hidle
  | reset _ hr => exact absurd hr hR
  | port p _ ih => exact ih hb

/-- Settles O55: what a step of CONTROL or DRIVER can do outside the mailboxes while a fill is in progress is read off its
effects. -/
theorem busyIsolation : Obligations.BusyIsolation := by
  unfold Obligations.BusyIsolation
  intro s t hbusy hagent hstep hreset
  exact (PortEffect.of_step hagent hstep).audioView hreset hbusy

end Sys2Proof.Machine
end

section
/-! Family 10_state, invariants: what `Inv` says of a state, which updates keep it, and that it holds after reset. -/

namespace Sys2Proof.Machine

/-! ### Legal configurations (00_scope.md R6) -/

section
variable {c : Cfg} (h : c.legal = true)
include h

/-- The legal column, for the parameters the proofs ask about. -/
theorem Cfg.fields_of_legal : (c.nvoices = 4 ∨ c.nvoices = 8) ∧ (c.frames = 64 ∨ c.frames = 128) ∧ c.filter = .ladder ∧
    c.mixShift ≤ 15 ∧ c.fifoDepth ∈ [2, 4, 8, 16, 32, 64, 128] ∧ c.sineTable.length = 1024 := by
  simp only [Cfg.legal, Bool.and_eq_true, Bool.or_eq_true, beq_iff_eq, Nat.ble_eq, List.contains_iff_mem] at h
  obtain ⟨⟨⟨⟨⟨⟨⟨⟨⟨hvoices, -⟩, hframes⟩, hfilter⟩, hshift⟩, hdepth⟩, -⟩, hsine⟩, -⟩, -⟩ := h
  exact ⟨hvoices, hframes, hfilter, hshift, hdepth, hsine⟩

theorem Cfg.nvoices_of_legal : c.nvoices = 4 ∨ c.nvoices = 8 := (Cfg.fields_of_legal h).1

theorem Cfg.bufWords_pos_of_legal : 0 < c.bufWords := by
  obtain ⟨-, hframes, -⟩ := Cfg.fields_of_legal h
  unfold Cfg.bufWords
  omega

/-- STATUS has room for the number of packets (10_state.md R24). -/
theorem Cfg.fifoDepth_bounds_of_legal : 0 < c.fifoDepth ∧ c.fifoDepth < 2 ^ 8 := by
  obtain ⟨-, -, -, -, hdepth, -⟩ := Cfg.fields_of_legal h
  simp only [List.mem_cons, List.not_mem_nil, or_false] at hdepth
  omega

/-- CONFIG has room for the depth's logarithm (10_state.md R27). -/
theorem Cfg.log2_fifoDepth_of_legal : 2 ^ Nat.log2 c.fifoDepth = c.fifoDepth ∧ Nat.log2 c.fifoDepth ≤ 7 := by
  obtain ⟨-, -, -, -, hdepth, -⟩ := Cfg.fields_of_legal h
  have hlog : ∀ d ∈ [2, 4, 8, 16, 32, 64, 128], 2 ^ Nat.log2 d = d ∧ Nat.log2 d ≤ 7 := by decide
  exact hlog _ hdepth

end

/-! ### What `Inv` says -/

section
variable {s : State} (h : Inv s)
include h

theorem Inv.legal : s.cfg.legal = true := h.1

theorem Inv.fifo : FifoInv s := by
  obtain ⟨-, -, -, hfifo, -⟩ := h
  exact hfifo

theorem Inv.sound_of_mem : ∀ x ∈ s.voices, x.sound := by
  obtain ⟨-, -, -, -, ⟨-, hsm⟩, ⟨-, -, hvoice⟩, -⟩ := h
  exact fun x hx => ⟨hsm x hx, hvoice x hx⟩

theorem Inv.voices_length : s.voices.length = s.cfg.nvoices := by
  obtain ⟨-, -, -, -, -, ⟨hn, -, -⟩, -⟩ := h
  exact hn

theorem Inv.lastStolen_lt : s.lastStolen.toNat < s.cfg.nvoices := by
  obtain ⟨-, -, -, -, -, ⟨-, hlast, -⟩, -⟩ := h
  exact hlast

theorem Inv.fill : FillInv s := by
  obtain ⟨-, -, -, -, -, -, hfill⟩ := h
  exact hfill

theorem Inv.outIndex_lt : ∀ op ∈ s.work.todo, ∀ i, op.outIndex = some i → i < s.cfg.bufWords := h.fill.2.1

theorem Inv.frame_le : s.seq.frame + frameEnds s.work.todo ≤ s.cfg.frames := h.fill.2.2

theorem Inv.sound_voice (v : Nat) : (s.voice v).sound := by
  rw [State.voice, List.getD_eq_getElem?_getD]
  cases hx : s.voices[v]? with
  | none => exact Voice.sound_reset _
  | some x => exact h.sound_of_mem x (List.mem_of_getElem? hx)

theorem Inv.settled_sm (id : SmId) : (s.sm id).settled := by
  cases id with
  | global g =>
    obtain ⟨-, -, -, -, ⟨hmix, -⟩, -, -⟩ := h
    exact hmix g
  | voice v k => exact (h.sound_voice v).settled k

theorem Inv.inRange_cell {i : Nat} (hi : i < 12) : (s.cell i).inRange i := by
  obtain ⟨-, -, ⟨-, hcell⟩, -⟩ := h
  exact hcell i hi

/-! ### What keeps `Inv` -/

theorem Inv.withVoices {vs : List Voice} (hlen : vs.length = s.voices.length) (hvs : ∀ x ∈ vs, x.sound) :
    Inv { s with voices := vs } := by
  obtain ⟨hl, hmem, hcell, hfifo, ⟨hmix, -⟩, ⟨hn, hlast, -⟩, hfill⟩ := h
  exact ⟨hl, hmem, hcell, hfifo, ⟨hmix, fun x hx => (hvs x hx).settled⟩,
    ⟨hlen.trans hn, hlast, fun x hx => ⟨(hvs x hx).quiet, (hvs x hx).bounded⟩⟩, hfill⟩

theorem Inv.setVoice (v : Nat) {x : Voice} (hx : x.sound) : Inv (s.setVoice v x) := by
  refine h.withVoices (by simp) fun y hy => ?_
  rcases List.mem_or_eq_of_mem_set hy with hold | rfl
  · exact h.sound_of_mem y hold
  · exact hx

theorem Inv.setSm (id : SmId) {m : Smoother} (hm : m.settled) : Inv (s.setSm id m) := by
  cases id with
  | global g =>
    obtain ⟨hl, hmem, hcell, hfifo, ⟨hmix, hsm⟩, hvoice, hfill⟩ := h
    refine ⟨hl, hmem, hcell, hfifo, ⟨fun g' => ?_, hsm⟩, hvoice, hfill⟩
    by_cases hg : g = g'
    · subst hg
      rwa [State.setSm, Mix.get_set_self]
    · rw [State.setSm, Mix.get_set_other _ _ _ _ hg]
      exact hmix g'
  | voice v k => exact h.setVoice v ((h.sound_voice v).setSm k hm)

theorem Inv.withCells {cs : List Cell} (hlen : cs.length = s.cells.length)
    (hcs : ∀ i, i < 12 → (cs.getD i ⟨0, [], 0⟩).inRange i) : Inv { s with cells := cs } := by
  obtain ⟨hl, hmem, ⟨hn, -⟩, hrest⟩ := h
  exact ⟨hl, hmem, ⟨hlen.trans hn, hcs⟩, hrest⟩

theorem Inv.setCell (i : Nat) {c : Cell} (hc : i < 12 → c.inRange i) : Inv { s with cells := s.cells.set i c } := by
  refine h.withCells (by simp) fun j hj => ?_
  have hold := h.inRange_cell hj
  rw [State.cell, List.getD_eq_getElem?_getD] at hold
  rw [List.getD_eq_getElem?_getD, List.getElem?_set]
  split
  · rename_i hij
    subst hij
    split
    · exact hc hj
    · rename_i hout
      rwa [List.getElem?_eq_none (by omega)] at hold
  · exact hold

theorem Inv.storeCell (i : Nat) {x : Word} (hx : fIsNaN x = false) : Inv (s.storeCell i x) :=
  h.setCell i fun hi => Cell.inRange_store (h.inRange_cell hi) (inRange_paramClamp i x hi hx)

theorem Inv.storeOut (b : Bool) (i : Nat) (w : Word) : Inv (s.storeOut b i w) := by
  obtain ⟨hl, hmem, hcell, hfifo, hsm, hvoice, hidle, htodo, hframe⟩ := h
  refine ⟨hl, s.storeOut_wf b i w hmem, hcell, hfifo, hsm, hvoice, fun hb => ?_, ?_, ?_⟩
  · have hb : s.seq.busy = false := hb
    simpa [State.storeOut, hb] using hidle hb
  · simpa using htodo
  · simpa using hframe

theorem Inv.withFifo {f : Fifo} (hf : f.slots.length = s.fifo.slots.length) (hhead : f.head < s.cfg.fifoDepth)
    (hcount : f.count ≤ s.cfg.fifoDepth) : Inv { s with fifo := f } := by
  obtain ⟨hl, hmem, hcell, ⟨hslots, -, -⟩, hrest⟩ := h
  exact ⟨hl, hmem, hcell, ⟨hf.trans hslots, hhead, hcount⟩, hrest⟩

theorem Inv.withLastStolen {b : BitVec 3} (hb : b.toNat < s.cfg.nvoices) : Inv { s with lastStolen := b } := by
  obtain ⟨hl, hmem, hcell, hfifo, hsm, ⟨hn, -, hvoice⟩, hfill⟩ := h
  exact ⟨hl, hmem, hcell, hfifo, hsm, ⟨hn, hb, hvoice⟩, hfill⟩

theorem Inv.withFill {q : Seq} {k : Work} (hk : FillInv { s with seq := q, work := k }) :
    Inv { s with seq := q, work := k } := by
  obtain ⟨hl, hmem, hcell, hfifo, hsm, hvoice, -⟩ := h
  exact ⟨hl, hmem, hcell, hfifo, hsm, hvoice, hk⟩

end

/-! ### Reset (70_reset_and_hazards.md R391, R392) -/

theorem cellInv_powerOn (c : Cfg) : CellInv (State.powerOn c) := by
  have hreset : ∀ i < 12, (resetCells.getD i ⟨0, [], 0⟩).visible = [(paramMeta i).default] := by decide
  refine ⟨rfl, fun i hi w hw => ?_⟩
  have hw : w ∈ (resetCells.getD i ⟨0, [], 0⟩).visible := hw
  rw [hreset i hi, List.mem_singleton] at hw
  rw [hw]
  exact (inRange_paramMeta i hi).2.2

/-- The state after power-on with any legal configuration. -/
theorem inv_powerOn (c : Cfg) (hl : c.legal = true) : Inv (State.powerOn c) := by
  have hn := Cfg.nvoices_of_legal hl
  have hvoices : ∀ x ∈ (State.powerOn c).voices, x.sound := fun x hx =>
    List.eq_of_mem_replicate hx ▸ Voice.sound_reset c
  refine ⟨hl, rfl, cellInv_powerOn c, ⟨List.length_replicate, (Cfg.fifoDepth_bounds_of_legal hl).1, Nat.zero_le _⟩,
    ⟨fun g => ?_, fun x hx => (hvoices x hx).settled⟩,
    ⟨List.length_replicate, ?_, fun x hx => ⟨(hvoices x hx).quiet, (hvoices x hx).bounded⟩⟩,
    fun _ => ⟨rfl, rfl⟩, nofun, Nat.zero_le _⟩
  · cases g <;> exact Smoother.settled_rest _ _
  · simp only [State.powerOn, BitVec.toNat_ofNat]
    omega

theorem Cfg.legal_default : Cfg.default.legal = true := by decide +kernel

/-- Settles O52: the default configuration is legal. -/
theorem resetInv : Obligations.ResetInv := inv_powerOn Cfg.default Cfg.legal_default

end Sys2Proof.Machine
end

section
/-! Family 10_state, invariants: every step keeps `Inv`, CONTROL's and DRIVER's by their effects, AUDIO's by its units. -/

namespace Sys2Proof.Machine

/-! ### CONTROL and DRIVER -/

theorem Smoother.settled_of_noMailbox_eq {m n : Smoother} (hm : m.noMailbox = n.noMailbox) (hn : n.settled) :
    m.settled := by
  simp only [Smoother.noMailbox, Smoother.mk.injEq] at hm
  obtain ⟨hcurrent, htarget, -, hremaining, -⟩ := hm
  intro hz
  rw [hcurrent, htarget]
  exact hn (hremaining ▸ hz)

theorem UopEffect.inv {s t : State} (h : UopEffect s t) (hs : Inv s) : Inv t := by
  induction h with
  | keep => exact hs
  | result r _ ih => exact ih
  | fault => exact hs
  | storeCell i x hx => exact hs.storeCell i hx
  | mailbox id p hm => exact hs.setSm id (Smoother.settled_of_noMailbox_eq hm (hs.settled_sm id))
  | sine => exact hs
  | voice v _ hx => exact hs.setVoice v (hx (hs.sound_voice v))
  | smoother id _ hm => exact hs.setSm id (hm (hs.settled_sm id))

theorem Inv.push {s : State} (hs : Inv s) (x : Slot) (h : s.fifo.count < s.cfg.fifoDepth) :
    Inv { s with fifo := s.fifo.push s.cfg.fifoDepth x } := by
  obtain ⟨-, hhead, -⟩ := hs.fifo
  exact hs.withFifo (by simp [Fifo.push]) hhead h

/-- A fill starts with the clearing of word 0 alone. -/
theorem Inv.startFill {s : State} (hs : Inv s) (b : Bool) :
    Inv { s with
      seq := { s.seq with busy := true, buf := b, phase := .clear, frame := 0 }
      work := { s.work with todo := [.clear 0], past := [] } } := by
  refine hs.withFill ⟨nofun, fun op hop i hi => ?_, Nat.zero_le _⟩
  obtain rfl := List.mem_singleton.mp hop
  cases hi
  exact Cfg.bufWords_pos_of_legal hs.legal

theorem PortEffect.inv {R : Prop} {s t : State} (h : PortEffect R s t) (hs : Inv s) : Inv t := by
  induction h with
  | uop h => exact h.inv hs
  | regs r => exact hs
  | store b i w => exact hs.storeOut b i w
  | push x p hfree => exact hs.push x hfree
  | fill b => exact hs.startFill b
  | reset p =>
    obtain ⟨hl, hmem, -⟩ := hs
    obtain ⟨-, -, hrest⟩ := inv_powerOn _ hl
    exact ⟨hl, hmem, hrest⟩
  | port p _ ih => exact ih hs

/-! ### Voice allocation names a voice of the bank (49_polyphony.md R332) -/

theorem firstVoice_lt (p : Voice → Bool) (vs : List Voice) (i v : Nat) (h : firstVoice p vs i = some v) :
    v < i + vs.length := by
  induction vs generalizing i with
  | nil => cases h
  | cons x xs ih =>
    simp only [firstVoice] at h
    simp only [List.length_cons]
    split at h
    · cases h
      omega
    · have := ih _ h
      omega

theorem quietestVoice_lt (p : Voice → Bool) (vs : List Voice) (i v : Nat) (best : Option (Nat × Int))
    (hbest : ∀ b ∈ best, b.1 < i) (h : quietestVoice p vs i best = some v) : v < i + vs.length := by
  induction vs generalizing i best with
  | nil =>
    simp only [quietestVoice, Option.map_eq_some_iff] at h
    obtain ⟨b, hb, rfl⟩ := h
    exact hbest b hb
  | cons x xs ih =>
    have hkept : ∀ b ∈ best, b.1 < i + 1 := fun b hb => Nat.lt_succ_of_lt (hbest b hb)
    have hnew : ∀ b ∈ some (i, s32 x.env.level), b.1 < i + 1 := by simp
    rw [List.length_cons, Nat.add_comm xs.length, ← Nat.add_assoc]
    simp only [quietestVoice] at h
    split at h
    · split at h
      · exact ih _ _ hnew h
      · split at h
        · exact ih _ _ hnew h
        · exact ih _ _ hkept h
    · exact ih _ _ hkept h

theorem selectVoice_lt (vs : List Voice) (n : BitVec 7) (h : 0 < vs.length) : (selectVoice vs n).1 < vs.length := by
  have hfirst {p : Voice → Bool} {v : Nat} (hv : firstVoice p vs 0 = some v) : v < vs.length := by
    simpa using firstVoice_lt p vs 0 v hv
  have hquiet {p : Voice → Bool} {v : Nat} (hv : quietestVoice p vs 0 none = some v) : v < vs.length := by
    simpa using quietestVoice_lt p vs 0 v none nofun hv
  unfold selectVoice
  split
  · exact hfirst ‹_›
  · split
    · exact hfirst ‹_›
    · split
      · exact hfirst ‹_›
      · split
        · exact hquiet ‹_›
        · split
          · exact hquiet ‹_›
          · exact h

/-! ### AUDIO's units -/

/-- A unit that touches no output word and ends no frame. -/
def AudioOp.plain (op : AudioOp) : Prop := op.outIndex = none ∧ op ≠ .frameNext

theorem frameEnds_append (ops rest : List AudioOp) : frameEnds (ops ++ rest) = frameEnds ops + frameEnds rest :=
  List.countP_append

theorem frameEnds_of_plain (ops : List AudioOp) (h : ∀ op ∈ ops, op.plain) : frameEnds ops = 0 :=
  List.countP_eq_zero.mpr fun op hop => by simpa using (h op hop).2

theorem plain_setTargetOps (x : Word) (ids : List SmId) : ∀ op ∈ setTargetOps x ids, op.plain := by
  intro op hop
  simp only [setTargetOps, List.mem_flatMap, List.mem_cons, List.not_mem_nil, or_false] at hop
  obtain ⟨id, -, rfl | rfl⟩ := hop <;> exact ⟨rfl, nofun⟩

theorem plain_sampleOps : ∀ op ∈ sampleOps, op.plain := by
  simp [sampleOps, AudioOp.plain, AudioOp.outIndex]

theorem plain_renderOps (v : Nat) : ∀ op ∈ renderOps v, op.plain := by
  simp [renderOps, AudioOp.plain, AudioOp.outIndex]

theorem frameEnds_frameOps (c : Cfg) (f : Nat) : frameEnds (frameOps c f) = 1 := by
  simp [frameOps, frameEnds]

theorem frameEnds_gainOps (f : Nat) : frameEnds (gainOps f) = 1 := by
  simp [gainOps, frameEnds]

/-- Frame `f` writes words `2 f` and `2 f + 1` of the buffer. -/
theorem outIndex_frameOps (c : Cfg) (f : Nat) : ∀ op ∈ frameOps c f, ∀ i, op.outIndex = some i → i ≤ 2 * f + 1 := by
  simp [frameOps, AudioOp.outIndex, or_imp, forall_and]

theorem outIndex_gainOps (f : Nat) : ∀ op ∈ gainOps f, ∀ i, op.outIndex = some i → i ≤ 2 * f + 1 := by
  simp [gainOps, AudioOp.outIndex]

section
variable {s : State} (h : Inv s)
include h

theorem Inv.setTmp (x : Word) : Inv (s.setTmp x) := h

theorem Inv.withAcc (x : Word) : Inv { s with work := { s.work with acc := x } } := h

/-- More work during a fill, inside the buffer and with frames left for it. -/
theorem Inv.doFirst (hb : s.seq.busy = true) {ops : List AudioOp}
    (hidx : ∀ op ∈ ops, ∀ i, op.outIndex = some i → i < s.cfg.bufWords)
    (hframe : s.seq.frame + (frameEnds ops + frameEnds s.work.todo) ≤ s.cfg.frames) : Inv (s.doFirst ops) := by
  refine h.withFill (q := s.seq) (k := (s.doFirst ops).work) ⟨fun hidle => ?_, fun op hop => ?_, ?_⟩
  · exact absurd (hb.symm.trans hidle) nofun
  · exact (List.mem_append.mp hop).elim (hidx op) (h.outIndex_lt op)
  · simpa [frameEnds_append] using hframe

theorem Inv.doFirst_plain (hb : s.seq.busy = true) {ops : List AudioOp} (hops : ∀ op ∈ ops, op.plain) :
    Inv (s.doFirst ops) := by
  refine h.doFirst hb (fun op hop i hi => ?_) (by simpa [frameEnds_of_plain ops hops] using h.frame_le)
  rw [(hops op hop).1] at hi
  cases hi

theorem Inv.doClear (hb : s.seq.busy = true) {i : Nat} (hi : i < s.cfg.bufWords) : Inv (s.doFirst [.clear i]) := by
  refine h.doFirst hb (fun op hop j hj => ?_) (by simpa [frameEnds] using h.frame_le)
  obtain rfl := List.mem_singleton.mp hop
  cases hj
  exact hi

theorem Inv.loadCell (i : Nat) : Inv (s.loadCell i) := by
  have hload (k : Nat) : Inv { s with cells := s.cells.set i ((s.cell i).load k).2 } :=
    h.setCell i fun hi => Cell.inRange_forget _ (h.inRange_cell hi)
  unfold State.loadCell
  by_cases hold : (s.cell i).older = []
  · simp only [hold, if_true]
    exact hload 0
  · simp only [hold, if_false]
    exact hload _

theorem Inv.convertCell (hb : s.seq.busy = true) (i : Nat) : Inv (s.convertCell i) := by
  unfold State.convertCell
  dsimp only
  split
  · exact h
  · exact Inv.doFirst_plain (s := { s with sent := _ }) h hb (plain_setTargetOps _ _)

theorem Inv.startVoice (hb : s.seq.busy = true) (v : Nat) : Inv (s.startVoice v) := by
  unfold State.startVoice
  split
  · exact h
  · exact ((h.setVoice v ((h.sound_voice v).oscMix s.mix)).setTmp _).doFirst_plain hb (plain_renderOps v)

/-- One unit of work, off the list. -/
theorem Inv.runOp (hb : s.seq.busy = true) (op : AudioOp) (hidx : ∀ i, op.outIndex = some i → i < s.cfg.bufWords)
    (hframe : op = .frameNext → s.seq.frame + 1 + frameEnds s.work.todo ≤ s.cfg.frames) : Inv (s.runOp op) := by
  cases op with
  | clear i =>
    have hcleared := h.storeOut s.seq.buf i 0
    simp only [State.runOp]
    split
    · exact hcleared.doClear hb ‹_›
    · exact hcleared.doFirst_plain hb (by simp [AudioOp.plain, AudioOp.outIndex])
  | w1 id x => exact h.setSm id (h.settled_sm id)
  | w2 id => exact h.setSm id (h.settled_sm id)
  | envOn v => exact h.setVoice v ((h.sound_voice v).withEnv (Env.quiet_noteOn _ (h.sound_voice v).quiet))
  | load i => exact h.loadCell i
  | conv i => exact h.convertCell hb i
  | enter p => exact h
  | e1 id =>
    simp only [State.runOp]
    split
    · exact h.doFirst_plain hb (by simp [AudioOp.plain, AudioOp.outIndex])
    · exact h.setSm id (Smoother.settled_advance _ (h.settled_sm id))
  | e2 id => exact h.doFirst_plain hb (by simp [AudioOp.plain, AudioOp.outIndex])
  | e3 id t => exact h.setSm id (Smoother.settled_advance _ (Smoother.settled_take _ t))
  | mixStart => exact h.withAcc 0
  | voice v => exact h.startVoice hb v
  | envSus v => exact h.setVoice v (h.sound_voice v).latchSustain
  | envTime v f => exact h.setVoice v ((h.sound_voice v).latchTime f)
  | envFsm v => exact h.setVoice v (h.sound_voice v).tickState
  | ladder v => exact (h.setVoice v ((h.sound_voice v).filter s.cfg s.sent s.work.tmp)).setTmp _
  | out v => exact h.withAcc _
  | mix => exact h.setTmp _
  | mixStore i => exact h.storeOut _ i _
  | gainLoad i => exact h.setTmp _
  | gainStore i => exact h.storeOut _ i _
  | frameNext =>
    obtain ⟨hidle, htodo, -⟩ := h.fill
    exact h.withFill ⟨hidle, htodo, hframe rfl⟩

/-- The units of a frame write inside the buffer, and end one frame. -/
theorem Inv.doFrame (hb : s.seq.busy = true) (htodo : s.work.todo = []) (hf : s.seq.frame < s.cfg.frames)
    {ops : List AudioOp} (hends : frameEnds ops = 1)
    (hidx : ∀ op ∈ ops, ∀ i, op.outIndex = some i → i ≤ 2 * s.seq.frame + 1) : Inv (s.doFirst ops) := by
  refine h.doFirst hb (fun op hop i hi => ?_) (by rw [hends, htodo]; exact hf)
  have := hidx op hop i hi
  simp only [Cfg.bufWords]
  omega

/-- The sequencer between two phases: no unit is left. -/
theorem Inv.withNoWork (q : Seq) (k : Work) (hk : k.todo = []) (hidle : q.busy = false → k.past = [])
    (hq : q.frame ≤ s.cfg.frames) : Inv { s with seq := q, work := k } := by
  refine h.withFill ⟨fun hqb => ⟨hk, hidle hqb⟩, ?_, ?_⟩
  · simp [hk]
  · simpa [hk, frameEnds] using hq

theorem Inv.nextUnits (hb : s.seq.busy = true) (htodo : s.work.todo = []) : Inv s.nextUnits := by
  unfold State.nextUnits
  split
  · exact h.doClear hb (Cfg.bufWords_pos_of_legal h.legal)
  · exact h.withNoWork _ _ htodo (by simp [hb]) (le_trans (Nat.le_add_right _ _) h.frame_le)
  · exact h.doFirst_plain hb plain_sampleOps
  · split
    · rename_i hf
      exact h.doFrame hb htodo hf (frameEnds_frameOps _ _) (outIndex_frameOps _ _)
    · exact h.withNoWork _ s.work htodo (by simp [hb]) (Nat.zero_le _)
  · split
    · rename_i hf
      exact h.doFrame hb htodo hf (frameEnds_gainOps _) (outIndex_gainOps _)
    · exact h.withNoWork _ _ htodo (fun _ => rfl) (Nat.zero_le _)

theorem Inv.audioUnit (hb : s.seq.busy = true) : Inv s.audioUnit := by
  have hidx := h.outIndex_lt
  have hframe := h.frame_le
  unfold State.audioUnit
  split
  · rename_i op ops htodo
    rw [htodo] at hidx hframe
    have hrest : Inv { s with work := { s.work with todo := ops } } := by
      refine h.withFill (q := s.seq) ⟨by simp [hb], fun o ho => hidx o (List.mem_cons_of_mem _ ho), ?_⟩
      simp only [frameEnds, List.countP_cons] at hframe ⊢
      omega
    refine hrest.runOp hb op (hidx op List.mem_cons_self) ?_
    rintro rfl
    simp only [frameEnds, List.countP_cons, beq_self_eq_true, if_true] at hframe ⊢
    omega
  · exact h.nextUnits hb ‹_›

/-! ### Packets -/

theorem Inv.vmNoteOn (hb : s.seq.busy = true) (n : BitVec 7) (vel : Word) : Inv (s.vmNoteOn n vel) := by
  have hn := h.voices_length
  have hvoices := Cfg.nvoices_of_legal h.legal
  have hv := selectVoice_lt s.voices n (by omega)
  unfold State.vmNoteOn
  refine Inv.doFirst_plain (Inv.withLastStolen (h.setVoice _ ((h.sound_voice _).startNote s.cfg n)) ?_) hb
    (by simp [AudioOp.plain, AudioOp.outIndex])
  split
  · simp only [BitVec.toNat_ofNat, State.setVoice_cfg]
    omega
  · exact h.lastStolen_lt

theorem Inv.vmNoteOff (n : BitVec 7) : Inv (s.vmNoteOff n) := by
  unfold State.vmNoteOff
  split
  · exact h.setVoice _ (h.sound_voice _).noteOff
  · exact h

theorem Inv.vmAllOff : Inv s.vmAllOff := by
  refine h.withVoices (by simp) fun x hx => ?_
  obtain ⟨y, hy, rfl⟩ := List.mem_map.mp hx
  have hsound := h.sound_of_mem y hy
  split
  · exact hsound.noteOff
  · exact hsound

theorem Inv.of_exec_evt {t : State} (hb : s.seq.busy = true) (i : Instr) (hi : formOf i = .evt)
    (hx : exec i s = .next t) : Inv t := by
  cases i with
  | evtNoteOn => cases hx; exact h.vmNoteOn hb _ _
  | evtNoteOnV0 | evtNoteOff => cases hx; exact h.vmNoteOff _
  | evtAllNotesOff => cases hx; exact h.vmAllOff
  | evtCcIgnored | evtOtherIgnored => cases hx; exact h
  | _ => cases hi

theorem Inv.poll {w : Word} {t : State} (hp : s.poll = some (w, t)) : Inv t ∧ t.seq = s.seq := by
  obtain ⟨-, -, hcount⟩ := h.fifo
  unfold State.poll at hp
  split_ifs at hp
  cases hp
  have hpopped := h.withFifo
    (f := { s.fifo with head := (s.fifo.head + 1) % s.cfg.fifoDepth, count := s.fifo.count - 1 }) rfl
    (Nat.mod_lt _ (Cfg.fifoDepth_bounds_of_legal h.legal).1) (le_trans (Nat.sub_le _ _) hcount)
  exact ⟨hpopped.withCells (length_forgetAll _ _) fun i hi => inRange_forgetAll i i _ _ (h.inRange_cell hi), rfl⟩

theorem Inv.audioStep {t : State} (ht : s.audioStep = .next t) : Inv t := by
  have hdrawn : Inv s.drawn := h
  unfold State.audioStep at ht
  split_ifs at ht with hpolls hbusy
  · simp only [State.polls, Bool.and_eq_true, List.isEmpty_iff] at hpolls
    obtain ⟨⟨hb, -⟩, htodo⟩ := hpolls
    split at ht
    · rename_i w u hp
      obtain ⟨hu, hseq⟩ := hdrawn.poll hp
      exact hu.of_exec_evt (by rw [hseq]; exact hb) _ (formOf_decodeEvt w) ht
    · cases ht
      exact hdrawn.nextUnits hb htodo
  · cases ht
    exact hdrawn.audioUnit hbusy
  · cases ht
    exact h

end

/-- Settles O53: CONTROL and DRIVER by the effects of a port step, AUDIO by its units and packets. -/
theorem stepKeepsInv : Obligations.StepKeepsInv := by
  unfold Obligations.StepKeepsInv
  intro s t hs ht
  by_cases ha : s.nextAgent.1 = .audio
  · have hturn : Inv s.nextAgent.2 := by
      rw [s.nextAgent_eq]
      exact hs
    rw [step_of_legal s hs.legal, ha] at ht
    exact hturn.audioStep ht
  · exact (PortEffect.of_step ha ht).inv hs

end Sys2Proof.Machine
end

section
/-! Family 10_state, commands: the writes to the registers (10_state.md R22, R23, R26, R28). -/

namespace Sys2Proof.Machine

/-! ### Words written to a register (30_encoding.md R119) -/

theorem wordInfo_eq_wordTop (w : Word) : wordInfo w = wordTop w := by
  apply BitVec.eq_of_toNat_eq
  simp [wordInfo, wordTop, bits, BitVec.extractLsb'_toNat, Nat.shiftRight_eq_div_pow]

/-- Settles O41: what `decodeUop` gives is a UOP, and no command stops. -/
theorem uopIssueMeaning : Obligations.UopIssueMeaning := by
  unfold Obligations.UopIssueMeaning
  intro s w
  refine ⟨exec_uopIssue w s, exec_next _ s, fun _ => ?_⟩
  rw [← wordInfo_eq_wordTop]
  rfl

theorem ne_zero_and_ne_one_of_two_le (w : Word) (h : 2 ≤ w.toNat) : w ≠ 0 ∧ w ≠ 1 := by
  constructor <;> rintro rfl <;> simp at h

/-- Reserved bits of CTRL and FILL (10_state.md R23, R26). -/
theorem decode_ctrl_of_two_le (w : Word) (h : 2 ≤ w.toNat) : decode .ctrl w = .error .ctrlReserved := by
  obtain ⟨h0, h1⟩ := ne_zero_and_ne_one_of_two_le w h
  simp only [decode, if_neg h0, if_neg h1]

theorem decode_fill_of_two_le (w : Word) (h : 2 ≤ w.toNat) : decode .fill w = .error .fillReserved := by
  obtain ⟨h0, h1⟩ := ne_zero_and_ne_one_of_two_le w h
  simp only [decode, if_neg h0, if_neg h1]

theorem State.request_write_ctrl (s : State) (w : Word) :
    s.request .control .write 0x000 w = (s.written .control).portCommand .ctrl 0x000 w := rfl

theorem State.request_write_fill (s : State) (a : Agent) (ha : a ≠ .audio) (w : Word) :
    s.request a .write 0x00C w = (s.written a).portCommand .fill 0x00C w := by
  cases a with
  | control | driver => rfl
  | audio => exact absurd rfl ha

/-- Settles O46: each of the four writes and reads computes. -/
theorem operandWrites : Obligations.OperandWrites := by
  unfold Obligations.OperandWrites
  exact fun _ _ => ⟨⟨rfl, rfl⟩, ⟨rfl, rfl⟩, ⟨rfl, rfl⟩, ⟨rfl, rfl⟩⟩

/-! ### Reset -/

/-- The reset values that depend on the rate (10_state.md R31, R33, R38): RAMP10, RAMP50, the times, the steal fade. -/
def resetColumn (c : Cfg) : List Word :=
  [BitVec.ofNat 32 c.ramp10, BitVec.ofNat 32 c.ramp50, attack0 c, decay0 c, release0 c, BitVec.ofNat 32 c.stealFade]

theorem resetColumn_44100 (c : Cfg) (h : c.sr = 44100) : resetColumn c = [441, 2205, 441, 8820, 4410, 220] := by
  simp [resetColumn, attack0, decay0, release0, slowRate, Cfg.ramp10, Cfg.ramp50, Cfg.stealFade, h]

theorem resetColumn_22050 (c : Cfg) (h : c.sr = 22050) : resetColumn c = [221, 1103, 220, 4410, 2205, 110] := by
  simp [resetColumn, attack0, decay0, release0, slowRate, Cfg.ramp10, Cfg.ramp50, Cfg.stealFade, h]

/-- Settles O38: RESET is the power-on state but for the memory and the agents' fields, and its values are those of the
rate's column. -/
theorem resetCommand : Obligations.ResetCommand := by
  unfold Obligations.ResetCommand
  intro s
  refine ⟨⟨rfl, rfl, fun w hw => ?_⟩, _, rfl, rfl, rfl, rfl, rfl, rfl, rfl, rfl, rfl, rfl, rfl, rfl, rfl, rfl, rfl, rfl, rfl,
    fun ramp10 ramp50 attack decay release fade hrate => ?_, fun c => rfl⟩
  · rw [s.request_write_ctrl, State.portCommand, decode_ctrl_of_two_le w hw]
    rfl
  · have hcol : [ramp10, ramp50, attack, decay, release, fade] = resetColumn s.cfg := by
      rcases hrate with ⟨hsr, hcol⟩ | ⟨hsr, hcol⟩
      · rw [hcol, resetColumn_44100 _ hsr]
      · rw [hcol, resetColumn_22050 _ hsr]
    simp only [resetColumn, List.cons.injEq, and_true] at hcol
    obtain ⟨rfl, rfl, rfl, rfl, rfl, rfl⟩ := hcol
    exact ⟨rfl, rfl, rfl⟩

/-! ### Fill -/

theorem State.status_busy (s : State) : s.status.getLsbD 0 = s.seq.busy := by
  simp only [State.status, BitVec.getLsbD_ofNat]
  cases s.seq.busy <;> simp <;> omega

/-- Settles O39: a request is FILL's arm, idle or busy, and the rest of the words are its reserved ones. -/
theorem fillCommand : Obligations.FillCommand := by
  unfold Obligations.FillCommand
  refine ⟨fun s b => ⟨fun hidle => ?_, fun hbusy => ?_⟩, fun s a ha => ⟨?_, ?_, fun w hw => ?_⟩⟩
  · exact ⟨_, rfl, by simp [hidle], by rw [State.status_busy]; simp [hidle]⟩
  · simp only [exec, execFill, hbusy, if_true]
    cases b <;> rfl
  · rw [s.request_write_fill a ha]
    rfl
  · rw [s.request_write_fill a ha]
    rfl
  · rw [s.request_write_fill a ha, State.portCommand, decode_fill_of_two_le w hw]
    rfl

end Sys2Proof.Machine
end

section
/-! Family 10_state, reads: the registers and tables as both agents read them (10_state.md R24 to R27, 20_memory.md R78). -/

namespace Sys2Proof.Machine

/-! ### The fields of STATUS and CONFIG (10_state.md R24, R27) -/

/-- A field of a word whose value is known to be the sum of its fields. -/
theorem extractLsb'_toNat_eq (w : Word) (lo n x : Nat) (h : w.toNat / 2 ^ lo % 2 ^ n = x) :
    (w.extractLsb' lo n).toNat = x := by
  rw [BitVec.extractLsb'_toNat, Nat.shiftRight_eq_div_pow, h]

theorem getLsbD_eq_of_toNat (w : Word) (k : Nat) (b : Bool) (h : w.toNat / 2 ^ k % 2 = b.toNat) : w.getLsbD k = b := by
  rw [BitVec.getLsbD, Nat.testBit_eq_decide_div_mod_eq, h]
  cases b <;> rfl

theorem State.status_fields (s : State) (h : s.fifo.count < 2 ^ 8) :
    s.status.getLsbD 0 = s.seq.busy ∧ s.status.getLsbD 1 = (s.fifo.count == s.cfg.fifoDepth) ∧
    s.status.getLsbD 2 = (s.fifo.count == 0) ∧ s.status.getLsbD 3 = s.seq.lastBuf ∧ s.status.extractLsb' 4 4 = 0 ∧
    (s.status.extractLsb' 8 8).toNat = s.fifo.count ∧ s.status.extractLsb' 16 5 = s.flt.sticky ∧
    s.status.extractLsb' 21 11 = 0 := by
  have := s.seq.busy.toNat_le
  have := (s.fifo.count == s.cfg.fifoDepth).toNat_le
  have := (s.fifo.count == 0).toNat_le
  have := s.seq.lastBuf.toNat_le
  have := s.flt.sticky.isLt
  have hw : s.status.toNat = s.seq.busy.toNat + 2 * (s.fifo.count == s.cfg.fifoDepth).toNat +
      4 * (s.fifo.count == 0).toNat + 8 * s.seq.lastBuf.toNat + 2 ^ 8 * s.fifo.count + 2 ^ 16 * s.flt.sticky.toNat := by
    rw [State.status, BitVec.toNat_ofNat]
    omega
  refine ⟨s.status_busy, getLsbD_eq_of_toNat _ _ _ ?_, getLsbD_eq_of_toNat _ _ _ ?_,
    getLsbD_eq_of_toNat _ _ _ ?_, BitVec.eq_of_toNat_eq (extractLsb'_toNat_eq _ _ _ _ ?_), extractLsb'_toNat_eq _ _ _ _ ?_,
    BitVec.eq_of_toNat_eq (extractLsb'_toNat_eq _ _ _ _ ?_), BitVec.eq_of_toNat_eq (extractLsb'_toNat_eq _ _ _ _ ?_)⟩
  all_goals bv_omega

/-- No legal configuration names the state-variable filter (00_scope.md R7), so its bit reads 0. -/
theorem configWord_fields (c : Cfg) (h : c.legal = true) :
    ((configWord c).extractLsb' 0 4).toNat = c.nvoices ∧ (configWord c).getLsbD 4 = (c.sr == 22050) ∧
    (configWord c).getLsbD 5 = (c.frames == 128) ∧ (configWord c).extractLsb' 6 2 = 0 ∧
    ((configWord c).extractLsb' 8 4).toNat = Nat.log2 c.fifoDepth ∧
    ((configWord c).extractLsb' 12 4).toNat = c.mixShift ∧ (configWord c).extractLsb' 16 16 = 0 := by
  obtain ⟨hvoices, -, hfilter, hshift, -⟩ := Cfg.fields_of_legal h
  obtain ⟨-, hlog⟩ := Cfg.log2_fifoDepth_of_legal h
  have := (c.sr == 22050).toNat_le
  have := (c.frames == 128).toNat_le
  have hsvf : (c.filter == .svf).toNat = 0 := by rw [hfilter]; rfl
  have hw : (configWord c).toNat = c.nvoices + 2 ^ 4 * (c.sr == 22050).toNat + 2 ^ 5 * (c.frames == 128).toNat +
      2 ^ 8 * Nat.log2 c.fifoDepth + 2 ^ 12 * c.mixShift := by
    rw [configWord, BitVec.toNat_ofNat, hsvf]
    omega
  refine ⟨extractLsb'_toNat_eq _ _ _ _ ?_, getLsbD_eq_of_toNat _ _ _ ?_, getLsbD_eq_of_toNat _ _ _ ?_,
    BitVec.eq_of_toNat_eq (extractLsb'_toNat_eq _ _ _ _ ?_), extractLsb'_toNat_eq _ _ _ _ ?_, extractLsb'_toNat_eq _ _ _ _ ?_,
    BitVec.eq_of_toNat_eq (extractLsb'_toNat_eq _ _ _ _ ?_)⟩
  all_goals bv_omega

/-! ### Reads (20_memory.md R71, R72, R78) -/

theorem regionOf_sineRom (c : Cfg) (i : Nat) (h : i < 1024) : regionOf c (0x2000 + 4 * i) = .sineRom i := by
  have hi : (0x2000 + 4 * i - 0x2000) / 4 = i := by omega
  simp only [regionOf, hi]
  rw [if_neg (by omega), if_neg (by omega), if_neg (by omega), if_neg (by omega), if_pos (by omega)]

theorem regionOf_noteInc (c : Cfg) (n : Nat) (h : n < 128) : regionOf c (0x3000 + 4 * n) = .noteInc n := by
  have hn : (0x3000 + 4 * n - 0x3000) / 4 = n := by omega
  simp only [regionOf, hn]
  rw [if_neg (by omega), if_neg (by omega), if_neg (by omega), if_neg (by omega), if_neg (by omega), if_pos (by omega)]

theorem regionOf_subInc (c : Cfg) (n : Nat) (h : n < 128) : regionOf c (0x3200 + 4 * n) = .subInc n := by
  have hn : (0x3200 + 4 * n - 0x3200) / 4 = n := by omega
  simp only [regionOf, hn]
  rw [if_neg (by omega), if_neg (by omega), if_neg (by omega), if_neg (by omega), if_neg (by omega), if_neg (by omega),
    if_pos (by omega)]

/-- A read of a region the agent may read. -/
theorem State.request_read_region (s : State) (a : Agent) (off : Nat) (d : Word) (r : Region)
    (hr : regionOf s.cfg off = r) (hmay : mayRead a r = true) :
    s.request a .read off d = .next (s.setReply a (some (s.portRead r))) := by
  rw [s.request_read, hr, if_pos hmay]

theorem State.request_read_both (s : State) (off : Nat) (r : Region) (hr : regionOf s.cfg off = r)
    (hc : mayRead .control r = true) (hd : mayRead .driver r = true) :
    (∀ d, s.request .control .read off d = .next (s.setReply .control (some (s.portRead r)))) ∧
      ∀ d, s.request .driver .read off d = .next (s.setReply .driver (some (s.portRead r))) :=
  ⟨fun d => s.request_read_region .control off d r hr hc, fun d => s.request_read_region .driver off d r hr hd⟩

/-- A read leaves every word a read returns as it was (R78). -/
theorem State.request_read_twice (s t u : State) (a b : Agent) (off : Nat) (d e : Word)
    (ha : mayRead a (regionOf s.cfg off) = true) (hb : mayRead b (regionOf s.cfg off) = true)
    (ht : s.request a .read off d = .next t) (hu : t.request b .read off e = .next u) :
    ∃ w, t = s.setReply a (some w) ∧ u = t.setReply b (some w) := by
  rw [s.request_read_region a off d _ rfl ha] at ht
  cases ht
  rw [State.request_read_region _ b off e _ (by rw [State.setReply_cfg]) hb, State.setReply_portRead] at hu
  cases hu
  exact ⟨_, rfl, rfl⟩

/-- Settles O45: a granted read delivers its region's word, whose fields are those of the two tables. -/
theorem registerReads : Obligations.RegisterReads := by
  unfold Obligations.RegisterReads
  refine ⟨fun s hl hcount => ?_, State.request_read_twice⟩
  obtain ⟨-, hdepth⟩ := Cfg.fifoDepth_bounds_of_legal hl
  obtain ⟨hbusy, hfull, hempty, hlast, hlow, hcnt, hsticky, hhigh⟩ := s.status_fields (lt_of_le_of_lt hcount hdepth)
  obtain ⟨hvoices, hrate, hframes, hfilter, hlog, hshift, htop⟩ := configWord_fields s.cfg hl
  refine ⟨fun _ => rfl, fun _ => rfl, fun _ => rfl, fun _ => rfl, fun _ => rfl, fun _ => rfl, fun _ => rfl, fun _ => rfl,
    s.request_read_both 0x00C .fill rfl rfl rfl, s.request_read_both 0x02C .faultInfo rfl rfl rfl, fun i x hx => ?_,
    fun n hn => ⟨?_, ?_⟩, s.status, configWord s.cfg, s.request_read_both 0x004 .status rfl rfl rfl,
    s.request_read_both 0x028 .config rfl rfl rfl, hbusy, by rw [hfull, beq_iff_eq], by rw [hempty, beq_iff_eq], hlast, hlow,
    hcnt, hsticky, hhigh, hvoices, by rw [hrate, beq_iff_eq], by rw [hframes, beq_iff_eq], hfilter, ?_, hshift, htop⟩
  · obtain ⟨hi, -⟩ := List.getElem?_eq_some_iff.mp hx
    have hentry : sineRom s.cfg i = x := by simp [sineRom, hx]
    obtain ⟨-, -, -, -, -, hlen⟩ := Cfg.fields_of_legal hl
    rw [← hentry]
    exact s.request_read_both _ _ (regionOf_sineRom s.cfg i (by omega)) rfl rfl
  · exact s.request_read_both _ _ (regionOf_noteInc s.cfg n hn) rfl rfl
  · exact s.request_read_both _ _ (regionOf_subInc s.cfg n hn) rfl rfl
  · rw [hlog]
    exact (Cfg.log2_fifoDepth_of_legal hl).1

end Sys2Proof.Machine
end

section
/-! Family 20_memory, commands: a step runs the command at its port (20_memory.md R80, 30_encoding.md R119, R120). -/

namespace Sys2Proof.Laws.RoundTrip

/-- Row by row: the word of a well-formed command decodes, in its form, to the command. -/
theorem decode_encode : ∀ i : Instr, Statement i
  | .nop => nop
  | .add => add
  | .sub => sub
  | .mul => mul
  | .div => div
  | .clamp => clamp
  | .addclamp => addclamp
  | .shra => shra
  | .fromint => fromint
  | .toint => toint
  | .fromfloat => fromfloat
  | .tofloat => tofloat
  | .oscReset v k => oscReset v k
  | .oscSetinc v k => oscSetinc v k
  | .sawNext v => sawNext v
  | .pulseNext v => pulseNext v
  | .subNext v => subNext v
  | .noiseNext v => noiseNext v
  | .sineNext => sineNext
  | .pulseSetw v => pulseSetw v
  | .oscRead v k => oscRead v k
  | .oscSetfreq v k => oscSetfreq v k
  | .sineLut => sineLut
  | .smReset id => smReset id
  | .smSetvalue id => smSetvalue id
  | .smSettarget id => smSettarget id
  | .smNext id => smNext id
  | .smRead id => smRead id
  | .paramSet i => paramSet i
  | .paramSetn i => paramSetn i
  | .paramGet i => paramGet i
  | .paramGetn i => paramGetn i
  | .envNoteOn v => envNoteOn v
  | .envNoteOff v => envNoteOff v
  | .envTick v => envTick v
  | .envRead v => envRead v
  | .envLevel v => envLevel v
  | .ladderStep v => ladderStep v
  | .ladderG => ladderG
  | .ladderRes => ladderRes
  | .cutoffMod => cutoffMod
  | .ladderRead v => ladderRead v
  | .svfStep low => svfStep low
  | .voiceNoteOn v => voiceNoteOn v
  | .voiceNoteOff v => voiceNoteOff v
  | .voiceRender v => voiceRender v
  | .voiceRead v => voiceRead v
  | .vmSelect => vmSelect
  | .illegalUop w => illegalUop w
  | .evtNoteOn d1 d2 rsv => evtNoteOn d1 d2 rsv
  | .evtNoteOnV0 d1 rsv => evtNoteOnV0 d1 rsv
  | .evtNoteOff d1 d2 rsv => evtNoteOff d1 d2 rsv
  | .evtAllNotesOff d2 rsv => evtAllNotesOff d2 rsv
  | .evtCcIgnored d1 d2 rsv => evtCcIgnored d1 d2 rsv
  | .evtOtherIgnored cmd d1 d2 rsv => evtOtherIgnored cmd d1 d2 rsv
  | .reset => reset
  | .fill b => fill b
  | .evtPush w => evtPush w
  | .uopIssue w => uopIssue w

end Sys2Proof.Laws.RoundTrip

namespace Sys2Proof.Machine

/-- The offset CONTROL writes a command's word to (30_encoding.md R119); a packet has none and stands with the UOPs. -/
def portOffset (f : Form) : Nat :=
  match f with
  | .ctrl => 0x000
  | .push => 0x008
  | .fill => 0x00C
  | .uop | .cmd | .evt => 0x020

theorem portOffset_mod_four (f : Form) : portOffset f % 4 = 0 := by
  cases f <;> rfl

theorem Cfg.base_mod_four_of_legal {c : Cfg} (h : c.legal = true) : c.base % 4 = 0 := by
  simp only [Cfg.legal, Bool.and_eq_true, beq_iff_eq] at h
  obtain ⟨⟨⟨⟨-, hbase⟩, -⟩, -⟩, -⟩ := h
  exact hbase

theorem State.request_write_region (s : State) (a : Agent) (off : Nat) (d : Word) (r : Region)
    (hr : regionOf s.cfg off = r) (hmay : mayWrite a r = true) :
    s.request a .write off d = (s.written a).portWrite r off d := by
  simp only [State.request, hr, hmay, if_true]

/-- A write of a word that is a command in its port's form runs the command. -/
theorem State.request_write_command (s : State) (f : Form) (w : Word) (i : Instr) (hf : f ≠ .evt)
    (hi : decode f w = .ok i) : s.request .control .write (portOffset f) w = exec i (s.written .control) := by
  have hcommand : ∀ g off, decode g w = .ok i → (s.written .control).portCommand g off w = exec i (s.written .control) := by
    intro g off hg
    simp only [State.portCommand, hg]
  cases f with
  | uop =>
    cases hi
    exact exec_uopIssue w _
  | evt => exact absurd rfl hf
  | ctrl => exact hcommand .ctrl 0x000 hi
  | fill => exact hcommand .fill 0x00C hi
  | push => exact hcommand .push 0x008 hi
  | cmd => exact hcommand .cmd 0x020 hi

/-- CONTROL's turn with an aligned write inside the port's space next, and nothing owed before it. -/
theorem step_of_control_write (s : State) (as : List Agent) (xs : List Access) (off : Nat) (w : Word)
    (hl : s.cfg.legal = true) (hsched : s.port.sched = .control :: as) (hw2 : s.port.w2Wait = none)
    (hpush : s.port.pushWait = none) (hoff : off % 4 = 0)
    (hx : s.port.control = ⟨.write, s.cfg.base + off, 4, w⟩ :: xs) :
    step s = ({ s with port := { s.port with sched := as, control := xs } } : State).request .control .write off w := by
  have hbase := Cfg.base_mod_four_of_legal hl
  have hturn : s.nextAgent = (.control, { s with port := { s.port with sched := as } }) := by
    simp only [State.nextAgent, hsched]
  have haccess := State.controlStep_of_access { s with port := { s.port with sched := as } } _ xs hw2 hpush hx
  rw [State.access_of_base_le _ _ _ rfl (by simp only; omega) (Nat.le_add_right _ _)] at haccess
  rw [step_of_legal s hl, hturn, State.agentStep, haccess, Nat.add_sub_cancel_left]

/-- The step that writes a command's word to the port of its form is the command. -/
theorem step_of_control_command (s : State) (as : List Agent) (xs : List Access) (f : Form) (w : Word) (i : Instr)
    (hl : s.cfg.legal = true) (hsched : s.port.sched = .control :: as) (hw2 : s.port.w2Wait = none)
    (hpush : s.port.pushWait = none) (hf : f ≠ .evt) (hi : decode f w = .ok i)
    (hx : s.port.control = ⟨.write, s.cfg.base + portOffset f, 4, w⟩ :: xs) :
    step s = exec i { s with port := { s.port with
      sched := as, control := xs, controlReply := none, draws := s.port.draws + 1 } } := by
  rw [step_of_control_write s as xs _ w hl hsched hw2 hpush (portOffset_mod_four f) hx,
    State.request_write_command _ f w i hf hi]
  rfl

theorem step_of_poll (s t : State) (as : List Agent) (w : Word) (hl : s.cfg.legal = true)
    (hsched : s.port.sched = .audio :: as) (hpolls : s.polls = true)
    (hp : ({ s with port := { s.port with sched := as, draws := s.port.draws + 1 } } : State).poll = some (w, t)) :
    step s = exec (decodeEvt w) t := by
  have hturn : s.nextAgent = (.audio, { s with port := { s.port with sched := as } }) := by
    simp only [State.nextAgent, hsched]
  have hpolls' : ({ s with port := { s.port with sched := as } } : State).polls = true := hpolls
  have hp' : ({ s with port := { s.port with sched := as } } : State).drawn.poll = some (w, t) := hp
  rw [step_of_legal s hl, hturn]
  simp only [State.agentStep, State.audioStep, hpolls', if_true, hp']

/-! ### The catch-all row takes the word itself (30_encoding.md R113, R117) -/

section
variable {w v : Word} {unit : Nat}

theorem eq_of_pureUop_illegalUop {i : Instr} (h : pureUop w unit i = .illegalUop v) (hi : i ≠ .illegalUop v) : v = w := by
  unfold pureUop at h
  split at h
  · exact absurd h hi
  · cases h; rfl

theorem eq_of_oscUop_illegalUop {f : Nat → Kind → Instr} (h : oscUop w unit f = .illegalUop v)
    (hf : ∀ u k, f u k ≠ .illegalUop v) : v = w := by
  unfold oscUop at h
  split at h
  · exact absurd h (hf _ _)
  · cases h; rfl

theorem eq_of_smUop_illegalUop {f : SmId → Instr} (h : smUop w unit f = .illegalUop v)
    (hf : ∀ id, f id ≠ .illegalUop v) : v = w := by
  unfold smUop at h
  split at h
  · exact absurd h (hf _)
  · cases h; rfl

theorem eq_of_paramUop_illegalUop {f : Fin 12 → Instr} (h : paramUop w unit f = .illegalUop v)
    (hf : ∀ i, f i ≠ .illegalUop v) : v = w := by
  unfold paramUop at h
  split at h
  · exact absurd h (hf _)
  · cases h; rfl

theorem oscNextUop_ne_illegalUop (u : Nat) (k : Kind) : oscNextUop u k ≠ .illegalUop v := by
  cases k <;> exact nofun

theorem eq_of_decodeOp_illegalUop {op : Nat} (h : decodeOp w op unit = .illegalUop v) : v = w := by
  unfold decodeOp at h
  split at h
  case h_15 => exact eq_of_oscUop_illegalUop h oscNextUop_ne_illegalUop
  any_goals exact eq_of_pureUop_illegalUop h nofun
  any_goals exact eq_of_oscUop_illegalUop h fun _ _ => nofun
  any_goals exact eq_of_smUop_illegalUop h fun _ => nofun
  any_goals exact eq_of_paramUop_illegalUop h fun _ => nofun
  any_goals cases h
  · split at h <;> cases h
    rfl
  · rfl

theorem eq_of_decodeUop_illegalUop (h : decodeUop w = .illegalUop v) : v = w := by
  unfold decodeUop at h
  split_ifs at h
  · exact eq_of_decodeOp_illegalUop h
  · cases h; rfl

end

/-- Log 1: a word that a UOP row other than the catch-all takes is read as a UOP. -/
theorem tableForm_of_uop (w : Word) (hw : w ≠ 1) (hu : decodeUop w ≠ .illegalUop w) : tableForm w = .uop := by
  unfold tableForm
  rw [if_neg hw]
  split
  · rename_i v hv
    rw [eq_of_decodeUop_illegalUop hv] at hv
    exact absurd hv hu
  · rfl

/-- Settles O49: a step of CONTROL or of AUDIO's poll is exec of what its word decodes to, and the word of a well-formed command
decodes to it. -/
theorem stepRunsDecoded : Obligations.StepRunsDecoded := by
  unfold Obligations.StepRunsDecoded
  refine ⟨fun s as xs i hl hsched hw2 hpush hf hwf hx => ?_, step_of_poll, fun s w hl hu hw => ?_⟩
  · exact step_of_control_command s as xs (formOf i) (encode i) i hl hsched hw2 hpush hf
      (Laws.RoundTrip.decode_encode i hwf) hx
  · have hpresent : s.withFetchWord 32 w.toNat = s.issueFirst 0x020 w := by
      simp only [State.withFetchWord, BitVec.ofNat_toNat, BitVec.setWidth_eq, tableForm_of_uop w hw hu, State.present]
    rw [hpresent]
    exact step_of_control_command (s.issueFirst 0x020 w) s.port.sched s.port.control .uop w (decodeUop w) hl rfl rfl rfl nofun
      rfl rfl

end Sys2Proof.Machine
end

section
/-! Family 20_memory, the port: who may access what (20_memory.md R71, R72), and the output words as the port reads and writes
them (R74, R76, R78, R85). -/

namespace Sys2Proof.Machine

/-! ### The map (20_memory.md R71) -/

theorem Cfg.frames_of_legal {c : Cfg} (h : c.legal = true) : c.frames = 64 ∨ c.frames = 128 := by
  obtain ⟨-, hframes, -⟩ := Cfg.fields_of_legal h
  exact hframes

theorem regionOf_of_lt (c : Cfg) (off : Nat) (h : off < 0x1000) : regionOf c off = regRegion off := if_pos h

/-- What the registers' columns say of an aligned offset. -/
theorem regRegion_access (off : Nat) (h : off % 4 = 0) :
    (mayWrite .control (regRegion off) = true ↔ off ∈ [0x000, 0x008, 0x00C, 0x010, 0x014, 0x018, 0x01C, 0x020]) ∧
    (mayWrite .driver (regRegion off) = true ↔ off = 0x00C) ∧
    (mayRead .control (regRegion off) = true ↔ off ≤ 0x02C) ∧
    (mayRead .driver (regRegion off) = true ↔ off ∈ [0x004, 0x00C, 0x028, 0x02C]) := by
  unfold regRegion
  split
  case h_13 =>
    simp only [mayWrite, mayRead, List.mem_cons, List.not_mem_nil, or_false, Bool.false_eq_true, false_iff, imp_false] at *
    omega
  all_goals simp [mayWrite, mayRead]

/-- A region of the output buffers, of the tables, or of none: the columns of both agents. -/
theorem regionOf_access_of_le (c : Cfg) (off : Nat) (hlegal : c.legal = true) (hoff : off % 4 = 0) (hreg : 0x1000 ≤ off) :
    let buffer := (0x1000 ≤ off ∧ off < 0x1000 + 8 * c.frames) ∨ (0x1400 ≤ off ∧ off < 0x1400 + 8 * c.frames)
    let table := 0x2000 ≤ off ∧ off < 0x3400
    (mayWrite .control (regionOf c off) = true ↔ buffer) ∧ mayWrite .driver (regionOf c off) = false ∧
    (mayRead .control (regionOf c off) = true ↔ buffer ∨ table) ∧
    (mayRead .driver (regionOf c off) = true ↔ buffer ∨ table) := by
  have hframes := Cfg.frames_of_legal hlegal
  unfold regionOf Cfg.bufWords
  split_ifs <;> simp only [mayWrite, mayRead, Bool.false_eq_true, false_iff, true_iff, true_and] <;> omega

/-- The four columns of the map at every aligned offset. -/
theorem regionOf_access (c : Cfg) (off : Nat) (hlegal : c.legal = true) (hoff : off % 4 = 0) :
    let buffer := (0x1000 ≤ off ∧ off < 0x1000 + 8 * c.frames) ∨ (0x1400 ≤ off ∧ off < 0x1400 + 8 * c.frames)
    let table := 0x2000 ≤ off ∧ off < 0x3400
    (mayWrite .control (regionOf c off) = true ↔
      off ∈ [0x000, 0x008, 0x00C, 0x010, 0x014, 0x018, 0x01C, 0x020] ∨ buffer) ∧
    (mayWrite .driver (regionOf c off) = true ↔ off = 0x00C) ∧
    (mayRead .control (regionOf c off) = true ↔ off ≤ 0x02C ∨ buffer ∨ table) ∧
    (mayRead .driver (regionOf c off) = true ↔ off ∈ [0x004, 0x00C, 0x028, 0x02C] ∨ buffer ∨ table) := by
  rcases Nat.lt_or_ge off 0x1000 with hlt | hge
  · obtain ⟨hwc, hwd, hrc, hrd⟩ := regRegion_access off hoff
    rw [regionOf_of_lt c off hlt, hwc, hwd, hrc, hrd]
    simp only [List.mem_cons, List.not_mem_nil, or_false, true_and]
    omega
  · obtain ⟨hwc, hwd, hrc, hrd⟩ := regionOf_access_of_le c off hlegal hoff hge
    rw [hwc, hwd, hrc, hrd]
    simp only [List.mem_cons, List.not_mem_nil, or_false, Bool.false_eq_true, false_iff]
    omega

/-- Settles O44: the columns of the map, and what a denied access does. -/
theorem portPermissions : Obligations.PortPermissions := by
  unfold Obligations.PortPermissions
  refine ⟨regionOf_access, fun s a off d => ⟨fun hmay => ?_, fun hmay => ?_⟩⟩
  · rw [s.request_read, hmay]
    rfl
  · simp only [State.request, hmay]
    rfl

/-! ### Words of the output memory (20_memory.md R74) -/

theorem byteOf_eq_extractLsb' (w : Word) (k : Nat) : byteOf w k = w.extractLsb' (8 * k) 8 := by
  apply BitVec.eq_of_toNat_eq
  simp [byteOf, BitVec.extractLsb'_toNat, Nat.shiftRight_eq_div_pow]

/-- A word store writes the word's bytes, least significant first. -/
theorem Memory.readByte_writeWord_same (m : Memory) (a k : Nat) (w : Word) (h : m.wf = true) (hk : k < 4) :
    (m.writeWord a w).readByte (a + k) = byteOf w k := by
  have h1 := Memory.wf_writeByte m a (byteOf w 0) h
  have h2 := Memory.wf_writeByte _ (a + 1) (byteOf w 1) h1
  have h3 := Memory.wf_writeByte _ (a + 2) (byteOf w 2) h2
  simp only [Memory.writeWord, Memory.readByte_writeByte _ _ _ _ h3, Memory.readByte_writeByte _ _ _ _ h2,
    Memory.readByte_writeByte _ _ _ _ h1, Memory.readByte_writeByte _ _ _ _ h]
  interval_cases k <;> simp

/-- The four bytes of a word make the word. -/
theorem byteOf_append (w : Word) : byteOf w 3 ++ byteOf w 2 ++ byteOf w 1 ++ byteOf w 0 = w := by
  apply BitVec.eq_of_toNat_eq
  have hlt := w.isLt
  have h := Laws.RoundTrip.toNat_evtWord (byteOf w 3) (byteOf w 2) (byteOf w 1) (byteOf w 0)
  rw [evtWord] at h
  rw [h]
  simp only [byteOf, BitVec.toNat_ofNat]
  omega

theorem Memory.readWord_writeWord_same (m : Memory) (a : Nat) (w : Word) (h : m.wf = true) :
    (m.writeWord a w).readWord a = w := by
  have hbyte := fun k hk => Memory.readByte_writeWord_same m a k w h hk
  rw [Memory.readWord, hbyte 3 (by decide), hbyte 2 (by decide), hbyte 1 (by decide),
    show (m.writeWord a w).readByte a = byteOf w 0 from hbyte 0 (by decide), byteOf_append]

/-- A word is its four bytes. -/
theorem Memory.readWord_congr (m n : Memory) (a : Nat) (h : ∀ k, k < 4 → m.readByte (a + k) = n.readByte (a + k)) :
    m.readWord a = n.readWord a := by
  rw [Memory.readWord, Memory.readWord, h 3 (by decide), h 2 (by decide), h 1 (by decide)]
  rw [show m.readByte a = n.readByte a from h 0 (by decide)]

section
variable {s : State} (h : MemoryInv s)
include h

theorem State.outWord_storeOut_self (b : Bool) (i : Nat) (w : Word) : (s.storeOut b i w).outWord b i = w :=
  Memory.readWord_writeWord_same _ _ _ h

theorem State.readByte_storeOut_other (b : Bool) (i : Nat) (w : Word) (a : Nat)
    (ha : a < outOffset b i ∨ outOffset b i + 4 ≤ a) : (s.storeOut b i w).mem.readByte a = s.mem.readByte a :=
  Memory.readByte_writeWord_other _ _ _ _ h ha

/-- A store of one word of a buffer leaves its others. -/
theorem State.outWord_storeOut_other (b : Bool) {i j : Nat} (hij : i ≠ j) (w : Word) :
    (s.storeOut b i w).outWord b j = s.outWord b j :=
  Memory.readWord_congr _ _ _ fun k hk => State.readByte_storeOut_other h b i w _ (by simp only [outOffset]; omega)

end

/-! ### Output words as the port reads them (20_memory.md R78, R85) -/

theorem regionOf_outOffset (c : Cfg) (b : Bool) (i : Nat) (hl : c.legal = true) (hi : i < c.bufWords) :
    regionOf c (outOffset b i) = .outbuf b i := by
  have hframes := Cfg.frames_of_legal hl
  have hlt : i < 2 * c.frames := hi
  have hquot : ∀ base : Nat, (base + 4 * i - base) / 4 = i := by omega
  cases b with
  | false =>
    simp only [regionOf, outOffset, Bool.false_eq_true, if_false, hquot]
    rw [if_neg (by omega), if_pos (by omega), if_pos hi]
  | true =>
    simp only [regionOf, outOffset, if_true, hquot]
    rw [if_neg (by omega), if_neg (by omega), if_pos (by omega), if_pos hi]

/-- A read draws among the word's candidates. -/
theorem State.readOut_mem_outCandidates (s : State) (b : Bool) (i : Nat) : s.readOut b i ∈ s.outCandidates b i := by
  unfold State.readOut
  split
  · rename_i x hx
    simp [hx]
  · have hpos : 0 < (s.outCandidates b i).length := by
      unfold State.outCandidates
      split <;> simp
    have hlt : Config.freeRead s.port.draws i % (s.outCandidates b i).length < (s.outCandidates b i).length :=
      Nat.mod_lt _ hpos
    rw [List.getD_eq_getElem?_getD, List.getElem?_eq_getElem hlt]
    exact List.getElem_mem hlt

theorem State.readOut_of_not_filling (s : State) (b : Bool) (i : Nat) (h : s.seq.busy = false ∨ s.seq.buf ≠ b) :
    s.readOut b i = s.outWord b i := by
  have hone : s.outCandidates b i = [s.outWord b i] := by
    unfold State.outCandidates
    rw [if_neg]
    rcases h with hidle | hother
    · simp [hidle]
    · simp [hother]
  simpa [hone] using s.readOut_mem_outCandidates b i

theorem State.readOut_of_filling (s : State) (b : Bool) (i : Nat) :
    s.readOut b i = s.outWord b i ∨ (i, s.readOut b i) ∈ s.work.past := by
  have hmem := s.readOut_mem_outCandidates b i
  unfold State.outCandidates at hmem
  split at hmem
  · rcases List.mem_append.mp hmem with hpast | hword
    · obtain ⟨⟨j, w⟩, hjw, hw⟩ := List.mem_map.mp hpast
      obtain ⟨hp, hj⟩ := List.mem_filter.mp hjw
      simp only [beq_iff_eq] at hj
      subst hj
      exact .inr (hw ▸ hp)
    · exact .inl (List.mem_singleton.mp hword)
  · exact .inl (List.mem_singleton.mp hmem)

theorem State.request_read_outbuf (s : State) (a : Agent) (b : Bool) (i : Nat) (d : Word) (hl : s.cfg.legal = true)
    (ha : a ≠ .audio) (hi : i < s.cfg.bufWords) :
    s.request a .read (outOffset b i) d = .next (s.setReply a (some (s.readOut b i))) := by
  refine s.request_read_region a _ d _ (regionOf_outOffset s.cfg b i hl hi) ?_
  cases a with
  | control | driver => rfl
  | audio => exact absurd rfl ha

theorem State.request_write_outbuf (s : State) (b : Bool) (i : Nat) (w : Word) (hl : s.cfg.legal = true)
    (hi : i < s.cfg.bufWords) :
    s.request .control .write (outOffset b i) w = .next ((s.written .control).storeOut b i w) :=
  s.request_write_region .control _ w _ (regionOf_outOffset s.cfg b i hl hi) rfl

/-- Settles O47: a read draws among the word and those it replaced; a write outside a fill leaves the word alone to draw from. -/
theorem outbufWriteRead : Obligations.OutbufWriteRead := by
  unfold Obligations.OutbufWriteRead
  refine ⟨fun s a b i d hl ha hi => ?_, fun s b i w d hl hmem hidle hi => ?_⟩
  · have hread := s.request_read_outbuf a b i d hl ha hi
    refine ⟨fun hother => ?_, fun _ _ => ⟨s.readOut b i, s.readOut_of_filling b i, hread⟩⟩
    rwa [s.readOut_of_not_filling b i hother] at hread
  · have hmem' : MemoryInv (s.written .control) := hmem
    have hback : ((s.written .control).storeOut b i w).readOut b i = w := by
      rw [((s.written .control).storeOut b i w).readOut_of_not_filling b i (.inl hidle), State.outWord_storeOut_self hmem']
    have hread : ∀ a ≠ .audio, ((s.written .control).storeOut b i w).request a .read (outOffset b i) d =
        .next (((s.written .control).storeOut b i w).setReply a (some w)) := by
      intro a ha
      rw [((s.written .control).storeOut b i w).request_read_outbuf a b i d hl ha hi, hback]
    refine ⟨_, s.request_write_outbuf b i w hl hi, State.outWord_storeOut_self hmem' b i w,
      State.readByte_storeOut_other hmem' b i w, fun k hk => ?_, hread .control nofun, hread .driver nofun⟩
    rw [← byteOf_eq_extractLsb']
    exact Memory.readByte_writeWord_same _ _ _ _ hmem' hk

end Sys2Proof.Machine
end

section
/-! Family 20_memory, the output memory: which steps store a word, and what they leave (20_memory.md R71, R77, R85). -/

namespace Sys2Proof.Machine

/-! ### Commands store no word -/

theorem UopEffect.mem_eq {s t : State} (h : UopEffect s t) : t.mem = s.mem := by
  induction h with
  | keep | fault | storeCell | sine | voice => rfl
  | result r _ ih => exact ih
  | mailbox id p hm => exact s.setSm_mem id _
  | smoother id => exact s.setSm_mem id _

/-- All a packet can do: write voices and the voice manager's register, and leave the rest of a note-on as the next units
(49_polyphony.md R325 to R330). -/
theorem exec_evt_effect (i : Instr) (s t : State) (hi : formOf i = .evt) (h : exec i s = .next t) :
    ∃ vs last ops, t = { s with voices := vs, lastStolen := last, work := { s.work with todo := ops ++ s.work.todo } } ∧
      (ops = [] ∨ ∃ v x, ops = [.w1 (.voice v .vel) x, .w2 (.voice v .vel), .envOn v]) := by
  have hvoices : ∀ vs, ∃ vs' last ops, ({ s with voices := vs } : State) =
      { s with voices := vs', lastStolen := last, work := { s.work with todo := ops ++ s.work.todo } } ∧
      (ops = [] ∨ ∃ v x, ops = [.w1 (.voice v .vel) x, .w2 (.voice v .vel), .envOn v]) :=
    fun vs => ⟨vs, s.lastStolen, [], rfl, .inl rfl⟩
  have hoff : ∀ n, ∃ vs, s.vmNoteOff n = { s with voices := vs } := by
    intro n
    unfold State.vmNoteOff
    split
    · exact ⟨_, rfl⟩
    · exact ⟨s.voices, rfl⟩
  cases i with
  | evtNoteOn => cases h; exact ⟨_, _, _, rfl, .inr ⟨_, _, rfl⟩⟩
  | evtNoteOnV0 d1 | evtNoteOff d1 =>
    cases h
    obtain ⟨vs, hvs⟩ := hoff (noteOfByte d1)
    rw [hvs]
    exact hvoices vs
  | evtAllNotesOff => cases h; exact hvoices _
  | evtCcIgnored | evtOtherIgnored => cases h; exact hvoices s.voices
  | _ => cases hi

/-- No command stores an output word, RESET among them (70_reset_and_hazards.md R391). -/
theorem exec_mem_eq (i : Instr) (s t : State) (h : exec i s = .next t) : t.mem = s.mem := by
  have huop : ∀ j, formOf j = .uop → exec j s = .next t → t.mem = s.mem := by
    intro j hj hx
    obtain ⟨u, hu, he⟩ := exec_uop_effect j s hj
    cases hu.symm.trans hx
    exact he.mem_eq
  cases hf : formOf i with
  | uop => exact huop i hf h
  | evt =>
    obtain ⟨vs, last, ops, rfl, -⟩ := exec_evt_effect i s t hf h
    rfl
  | ctrl | fill | push | cmd =>
    cases i with
    | reset => cases h; rfl
    | fill | evtPush =>
      cases h
      split <;> rfl
    | uopIssue w =>
      rw [exec_uopIssue] at h
      exact huop _ (formOf_decodeUop w) h
    | _ => cases hf

/-! ### AUDIO's units -/

/-- The state with other units to be done. -/
def State.withTodo (s : State) (ops : List AudioOp) : State := { s with work := { s.work with todo := ops } }

/-- A unit runs once it is off the list. -/
theorem State.audioUnit_of_todo (s : State) (op : AudioOp) (ops : List AudioOp) (h : s.work.todo = op :: ops) :
    s.audioUnit = (s.withTodo ops).runOp op := by
  unfold State.audioUnit
  rw [h]
  rfl

/-- During a fill AUDIO's next unit is a step. -/
theorem State.audioStep_of_todo (s : State) (op : AudioOp) (ops : List AudioOp) (hb : s.seq.busy = true)
    (h : s.work.todo = op :: ops) : s.audioStep = .next ((s.drawn.withTodo ops).runOp op) := by
  have hpolls : s.polls = false := by simp [State.polls, h]
  rw [← s.drawn.audioUnit_of_todo op ops h]
  simp [State.audioStep, hpolls, hb]

theorem State.storeOut_past (s : State) (b : Bool) (i : Nat) (w : Word) : (s.storeOut b i w).work.past =
    if s.seq.busy && s.seq.buf == b then s.work.past ++ [(i, s.outWord b i)] else s.work.past := by
  unfold State.storeOut
  split <;> rfl

/-- The word a unit stores in the buffer being filled, with its index, if it stores one (49_polyphony.md R338 to R340). -/
def State.unitStore (s : State) (op : AudioOp) : Option (Nat × Word) :=
  match op with
  | .clear i => some (i, 0)
  | .mixStore i => some (i, s.work.tmp)
  | .gainStore i => some (i, fmul s.work.tmp s.mix.masterVol.current)
  | .w1 _ _ | .w2 _ | .envOn _ | .load _ | .conv _ | .enter _ | .e1 _ | .e2 _ | .e3 _ _ | .mixStart => none
  | .voice _ | .envSus _ | .envTime _ _ | .envFsm _ | .ladder _ | .out _ | .mix | .gainLoad _ | .frameNext => none

theorem State.audioStores_iff (s : State) (i : Nat) (w : Word) : s.audioStores i w ↔
    s.nextAgent.1 = .audio ∧ s.seq.busy = true ∧ ∃ op ops, s.work.todo = op :: ops ∧ s.unitStore op = some (i, w) := by
  refine and_congr_right fun _ => and_congr_right fun _ => ⟨?_, ?_⟩
  · rintro ⟨ops, ⟨htodo, rfl⟩ | ⟨htodo, rfl⟩ | ⟨htodo, rfl⟩⟩ <;> exact ⟨_, ops, htodo, rfl⟩
  · rintro ⟨op, ops, htodo, hst⟩
    refine ⟨ops, ?_⟩
    cases op with
    | clear => cases hst; exact .inl ⟨htodo, rfl⟩
    | mixStore => cases hst; exact .inr (.inl ⟨htodo, rfl⟩)
    | gainStore => cases hst; exact .inr (.inr ⟨htodo, rfl⟩)
    | _ => cases hst

theorem State.loadCell_mem (s : State) (i : Nat) : (s.loadCell i).mem = s.mem := by
  simp only [State.loadCell]
  split <;> rfl

theorem State.convertCell_mem (s : State) (i : Nat) : (s.convertCell i).mem = s.mem := by
  simp only [State.convertCell]
  split <;> rfl

theorem State.startVoice_eq (s : State) (v : Nat) :
    s.startVoice v = s ∨ ∃ x w, s.startVoice v = ((s.setVoice v x).setTmp w).doFirst (renderOps v) := by
  unfold State.startVoice
  split
  · exact .inl rfl
  · exact .inr ⟨_, _, rfl⟩

theorem State.startVoice_mem (s : State) (v : Nat) : (s.startVoice v).mem = s.mem := by
  obtain h | ⟨x, w, h⟩ := s.startVoice_eq v
  · rw [h]
  · rw [h]
    rfl

theorem State.runOp_mem_of_no_store (s : State) (op : AudioOp) (h : s.unitStore op = none) : (s.runOp op).mem = s.mem := by
  cases op with
  | clear | mixStore | gainStore => cases h
  | load i => exact s.loadCell_mem i
  | conv i => exact s.convertCell_mem i
  | voice v => exact s.startVoice_mem v
  | e1 id =>
    simp only [State.runOp]
    split
    · rfl
    · exact s.setSm_mem id _
  | w1 id | w2 id | e3 id => exact s.setSm_mem id _
  | _ => rfl

/-- A unit that stores a word stores it as `storeOut` does. -/
theorem State.runOp_of_store (s : State) (op : AudioOp) (i : Nat) (w : Word) (h : s.unitStore op = some (i, w)) :
    (s.runOp op).mem = (s.storeOut s.seq.buf i w).mem ∧ (s.runOp op).work.past = (s.storeOut s.seq.buf i w).work.past := by
  cases op with
  | clear j =>
    cases h
    simp only [State.runOp]
    split <;> exact ⟨rfl, rfl⟩
  | mixStore | gainStore => cases h; exact ⟨rfl, rfl⟩
  | _ => cases h

theorem State.nextUnits_mem (s : State) : s.nextUnits.mem = s.mem := by
  unfold State.nextUnits
  split
  case h_4 | h_5 => split <;> rfl
  all_goals rfl

/-- A step of AUDIO that is no store. -/
theorem State.audioStep_mem_of_no_store (s t : State)
    (h : ∀ op ops, s.seq.busy = true → s.work.todo = op :: ops → s.unitStore op = none) (ht : s.audioStep = .next t) :
    t.mem = s.mem := by
  unfold State.audioStep at ht
  split_ifs at ht with hpolls hbusy
  · split at ht
    · rename_i w u hp
      rw [exec_mem_eq _ _ _ ht]
      unfold State.poll at hp
      split_ifs at hp
      cases hp
      rfl
    · cases ht
      exact s.drawn.nextUnits_mem
  · cases ht
    unfold State.audioUnit
    split
    · rename_i op ops htodo
      exact State.runOp_mem_of_no_store _ op (h op ops hbusy htodo)
    · exact s.drawn.nextUnits_mem
  · cases ht
    rfl

/-- A step of AUDIO that stores a word. -/
theorem State.audioStep_of_store (s t : State) (op : AudioOp) (ops : List AudioOp) (i : Nat) (w : Word)
    (hb : s.seq.busy = true) (htodo : s.work.todo = op :: ops) (hst : s.unitStore op = some (i, w))
    (ht : s.audioStep = .next t) :
    t.mem = (s.storeOut s.seq.buf i w).mem ∧ t.work.past = (s.storeOut s.seq.buf i w).work.past := by
  rw [s.audioStep_of_todo op ops hb htodo] at ht
  cases ht
  obtain ⟨hmem, hpast⟩ := (s.drawn.withTodo ops).runOp_of_store op i w hst
  rw [hmem, hpast, State.storeOut_past, State.storeOut_past]
  exact ⟨rfl, rfl⟩

/-! ### CONTROL and DRIVER -/

theorem eq_outOffset_of_regionOf {c : Cfg} {off i : Nat} {b : Bool} (h : regionOf c off = .outbuf b i) (hoff : off % 4 = 0) :
    i < c.bufWords ∧ off = outOffset b i := by
  unfold regionOf at h
  split_ifs at h
  · unfold regRegion at h
    split at h <;> cases h
  all_goals
    cases h
    refine ⟨‹_›, ?_⟩
    simp only [outOffset, Bool.false_eq_true, if_false, if_true]
    omega

theorem State.portCommand_mem (s t : State) (f : Form) (off : Nat) (w : Word) (h : s.portCommand f off w = .next t) :
    t.mem = s.mem := by
  unfold State.portCommand at h
  split at h
  · exact exec_mem_eq _ s t h
  all_goals cases h; rfl

theorem State.portWrite_mem (s t : State) (r : Region) (off : Nat) (w : Word) (hr : ∀ b i, r ≠ .outbuf b i)
    (h : s.portWrite r off w = .next t) : t.mem = s.mem := by
  cases r with
  | ctrl => exact s.portCommand_mem t .ctrl off w h
  | evtPush => exact s.portCommand_mem t .push off w h
  | fill => exact s.portCommand_mem t .fill off w h
  | uopCmd => exact s.portCommand_mem t .cmd off w h
  | outbuf b i => exact absurd rfl (hr b i)
  | _ => cases h; rfl

theorem State.deny_mem (s : State) (a : Agent) (dir : Dir) (info : BitVec 24) : (s.deny a dir info).mem = s.mem := by
  rw [s.deny_eq]

/-- An access stores a word only where it is CONTROL's write of that word. -/
theorem State.access_mem_of_no_store (s t : State) (a : Agent) (x : Access) (h : s.access a x = .next t)
    (hbase : s.cfg.base % 4 = 0)
    (hx : ∀ b i w, i < s.cfg.bufWords → a = .control → x ≠ ⟨.write, s.cfg.base + outOffset b i, 4, w⟩) :
    t.mem = s.mem := by
  unfold State.access at h
  split_ifs at h with hshape hbelow
  · cases h
    exact s.deny_mem a _ _
  obtain ⟨dir, addr, width, data⟩ := x
  simp only [not_or, not_not] at hshape hbelow h
  obtain ⟨rfl, haddr⟩ := hshape
  cases dir with
  | read =>
    rw [s.request_read] at h
    cases h
    split
    · exact s.setReply_mem a _
    · exact s.deny_mem a _ _
  | write =>
    simp only [State.request] at h
    split at h
    · rename_i hmay
      rw [State.portWrite_mem _ t _ _ data ?_ h, s.written_mem a]
      intro b i hr
      obtain ⟨hi, hoff⟩ := eq_outOffset_of_regionOf hr (by omega)
      have ha : a = .control := by
        rw [hr] at hmay
        cases a with
        | control => rfl
        | driver | audio => cases hmay
      refine hx b i data hi ha ?_
      simp only [Access.mk.injEq, true_and, and_true]
      omega
    · cases h
      exact s.deny_mem a _ _

theorem State.access_store (s : State) (b : Bool) (i : Nat) (w : Word) (hl : s.cfg.legal = true) (hi : i < s.cfg.bufWords) :
    s.access .control ⟨.write, s.cfg.base + outOffset b i, 4, w⟩ = .next ((s.written .control).storeOut b i w) := by
  have hbase := Cfg.base_mod_four_of_legal hl
  have halign : (s.cfg.base + outOffset b i) % 4 = 0 := by
    unfold outOffset
    split <;> omega
  rw [s.access_of_base_le _ _ rfl halign (Nat.le_add_right _ _), Nat.add_sub_cancel_left]
  exact s.request_write_outbuf b i w hl hi

/-! ### Steps -/

/-- The next step stores `w` in word `i` of buffer `b`. -/
def State.stores (s : State) (b : Bool) (i : Nat) (w : Word) : Prop :=
  s.controlStores b i w ∨ s.audioStores i w ∧ b = s.seq.buf

theorem step_legal {s t : State} (h : step s = .next t) : s.cfg.legal = true := by
  unfold step at h
  split at h
  · assumption
  · cases h

theorem State.nextAgent_mem (s : State) : s.nextAgent.2.mem = s.mem := by rw [s.nextAgent_eq]

theorem State.controlStep_mem_of_no_store (s t : State) (hbase : s.cfg.base % 4 = 0)
    (hx : s.port.w2Wait = none → s.port.pushWait = none → ∀ b i w xs, i < s.cfg.bufWords →
      s.port.control ≠ ⟨.write, s.cfg.base + outOffset b i, 4, w⟩ :: xs)
    (h : s.controlStep = .next t) : t.mem = s.mem := by
  unfold State.controlStep at h
  split at h
  · cases h
    exact s.setSm_mem _ _
  · rename_i hw2
    split at h
    · exact exec_mem_eq _ s t h
    · rename_i hpush
      split at h
      · cases h; rfl
      · rename_i x xs hc
        have hmem := State.access_mem_of_no_store _ t .control x h hbase fun b i w hi _ hxw =>
          hx hw2 hpush b i w xs hi (by rw [hc, hxw])
        exact hmem

theorem State.driverStep_mem (s t : State) (hbase : s.cfg.base % 4 = 0) (h : s.driverStep = .next t) : t.mem = s.mem := by
  unfold State.driverStep at h
  split at h
  · cases h; rfl
  · have hmem := State.access_mem_of_no_store _ t .driver _ h hbase fun _ _ _ _ ha => by cases ha
    exact hmem

/-- A step that stores no word. -/
theorem step_mem_of_no_store (s t : State) (hno : ∀ b i w, ¬s.stores b i w) (h : step s = .next t) : t.mem = s.mem := by
  have hl := step_legal h
  have hbase := Cfg.base_mod_four_of_legal hl
  have hcfg : s.nextAgent.2.cfg = s.cfg := by rw [s.nextAgent_eq]
  rw [step_of_legal s hl] at h
  rw [← s.nextAgent_mem]
  cases ha : s.nextAgent.1 with
  | control =>
    rw [ha] at h
    refine State.controlStep_mem_of_no_store _ t (by rwa [hcfg]) (fun hw2 hpush b i w xs hi hc => ?_) h
    rw [hcfg] at hi hc
    simp only [State.nextAgent_w2Wait, State.nextAgent_pushWait, State.nextAgent_control] at hw2 hpush hc
    exact hno b i w (.inl ⟨hi, ha, .inl ⟨rfl, hw2, hpush, xs, hc⟩⟩)
  | driver =>
    rw [ha] at h
    exact State.driverStep_mem _ t (by rwa [hcfg]) h
  | audio =>
    rw [ha] at h
    refine State.audioStep_mem_of_no_store _ t (fun op ops hb htodo => ?_) h
    rw [s.nextAgent_eq] at hb htodo ⊢
    cases hst : s.unitStore op with
    | none => exact hst
    | some y => exact absurd (.inr ⟨(s.audioStores_iff y.1 y.2).mpr ⟨ha, hb, op, ops, htodo, hst⟩, rfl⟩) (hno s.seq.buf y.1 y.2)

/-- A step that stores a word. -/
theorem step_of_stores (s t : State) (b : Bool) (i : Nat) (w : Word) (hst : s.stores b i w) (h : step s = .next t) :
    t.mem = (s.storeOut b i w).mem ∧ t.work.past = (s.storeOut b i w).work.past := by
  have hl := step_legal h
  obtain ⟨p, hp⟩ : ∃ p, s.nextAgent.2 = { s with port := p } := ⟨_, s.nextAgent_eq⟩
  rw [step_of_legal s hl] at h
  rcases hst with ⟨hi, ha, ⟨-, hw2, hpush, xs, hc⟩ | ⟨hd, -⟩⟩ | ⟨haudio, rfl⟩
  · have haccess := s.nextAgent.2.controlStep_of_access _ xs (by simpa) (by simpa) (by simpa)
    rw [hp] at haccess
    have hstore := State.access_store { s with port := { p with control := xs } } b i w hl hi
    rw [ha, hp] at h
    cases h.symm.trans (haccess.trans hstore)
    rw [State.storeOut_past, State.storeOut_past]
    exact ⟨rfl, rfl⟩
  · cases hd
  · obtain ⟨ha, hb, op, ops, htodo, hop⟩ := (s.audioStores_iff i w).mp haudio
    rw [ha, hp] at h
    obtain ⟨hm, hpast⟩ := State.audioStep_of_store { s with port := p } t op ops i w hb htodo hop h
    rw [hm, hpast, State.storeOut_past, State.storeOut_past]
    exact ⟨rfl, rfl⟩

/-- Settles O54: a step stores a word exactly as `storeOut` does, or leaves the memory. -/
theorem memoryFrame : Obligations.MemoryFrame := by
  unfold Obligations.MemoryFrame
  refine ⟨fun s t hmem h => ?_, fun i s t h a => by rw [exec_mem_eq i s t h], fun s t h hcontrol haudio a => ?_,
    fun s t b i w hmem h hst => ?_⟩
  · by_cases hst : ∃ b i w, s.stores b i w
    · obtain ⟨b, i, w, hst⟩ := hst
      obtain ⟨hm, -⟩ := step_of_stores s t b i w hst h
      rw [MemoryInv, hm]
      exact s.storeOut_wf b i w hmem
    · simp only [not_exists] at hst
      rw [MemoryInv, step_mem_of_no_store s t hst h]
      exact hmem
  · rw [step_mem_of_no_store s t (fun b i w hst => hst.elim (hcontrol b i w) fun ha => haudio i w ha.1) h]
  · obtain ⟨hm, hpast⟩ := step_of_stores s t b i w hst h
    have hword := State.outWord_storeOut_self hmem b i w
    simp only [State.outWord, ← hm] at hword
    refine ⟨hword, fun a ha => ?_, fun hb hbuf => ?_⟩
    · rw [hm]
      exact State.readByte_storeOut_other hmem b i w a ha
    · rw [hpast, State.storeOut]
      simp [hb, hbuf]

end Sys2Proof.Machine
end

section
/-! Family 20_memory, the relaxed cells and the FIFO: which stores a load may still return (20_memory.md R81, R82). -/

namespace Sys2Proof.Machine

/-! ### One cell -/

theorem Cell.visible_forget (c : Cell) (n : Nat) :
    (c.forget n).visible = c.visible.drop (min (n - c.base) c.older.length) := by
  rw [Cell.visible, Cell.visible, List.drop_append_of_le_length (Nat.min_le_right _ _), Cell.forget]
  rcases Nat.le_total (n - c.base) c.older.length with h | h
  · rw [Nat.min_eq_left h]
  · rw [Nat.min_eq_right h, List.drop_eq_nil_of_le h, List.drop_length]

theorem Cell.issued_forget (c : Cell) (n : Nat) : (c.forget n).issued = c.issued := by
  simp only [Cell.issued, Cell.forget, List.length_drop]
  omega

theorem Cell.forget_zero (c : Cell) : c.forget 0 = c := by
  simp [Cell.forget]

theorem Cell.length_visible (c : Cell) : c.visible.length = c.older.length + 1 := by
  simp [Cell.visible]

/-- A load of the `k`-th visible value drops the older ones. -/
theorem Cell.load_spec (c : Cell) (k : Nat) (hk : k < c.visible.length) :
    c.visible[k]? = some (c.load k).1 ∧ (c.load k).2.visible = c.visible.drop k ∧ (c.load k).2.latest = c.latest := by
  have hlen := c.length_visible
  refine ⟨?_, ?_, rfl⟩
  · simp [Cell.load, List.getD_eq_getElem?_getD, hk]
  · simp only [Cell.load, Cell.visible_forget, Nat.add_sub_cancel_left]
    rw [Nat.min_eq_left (by omega)]

/-- The visible values whose number is at least `n`. -/
def Cell.since (c : Cell) (n : Nat) : List Word := c.visible.drop (n - c.base)

theorem Cell.since_issued (c : Cell) : c.since c.issued = [c.latest] := by
  simp [Cell.since, Cell.issued, Cell.visible]

/-- Forgetting the stores below `n` leaves the others. -/
theorem Cell.visible_forget_eq_since (c : Cell) (n : Nat) (h : n ≤ c.issued) : (c.forget n).visible = c.since n := by
  unfold Cell.issued at h
  rw [Cell.visible_forget, Cell.since, Nat.min_eq_left (by omega)]

theorem Cell.since_forget_suffix (c : Cell) (m n : Nat) : (c.forget m).since n <:+ c.since n := by
  have hdrop : n - c.base ≤ min (m - c.base) c.older.length + (n - (c.forget m).base) := by
    simp only [Cell.forget]
    omega
  rw [Cell.since, Cell.visible_forget, List.drop_drop, Cell.since]
  exact List.drop_suffix_drop_left _ hdrop

theorem Cell.since_store (c : Cell) (n : Nat) (x : Word) (h : n ≤ c.issued) : (c.store x).since n = c.since n ++ [x] := by
  have hle : n - c.base ≤ c.visible.length := by
    rw [c.length_visible]
    unfold Cell.issued at h
    omega
  exact List.drop_append_of_le_length hle

/-- Store number `n` has been issued, and the visible values from it on are the last of `l`. -/
def Cell.Tracks (n : Nat) (l : List Word) (c : Cell) : Prop := n ≤ c.issued ∧ c.since n <:+ l

theorem Cell.Tracks.forget {n : Nat} {l : List Word} {c : Cell} (h : c.Tracks n l) (m : Nat) : (c.forget m).Tracks n l :=
  ⟨by rw [Cell.issued_forget]; exact h.1, (c.since_forget_suffix m n).trans h.2⟩

theorem Cell.Tracks.store {n : Nat} {l : List Word} {c : Cell} (h : c.Tracks n l) (x : Word) :
    (c.store x).Tracks n (l ++ [x]) := by
  obtain ⟨hn, hl⟩ := h
  refine ⟨?_, by rw [c.since_store n x hn]; exact (List.suffix_append_inj_of_length_eq rfl).mpr ⟨hl, rfl⟩⟩
  simp only [Cell.issued, Cell.store, List.length_append] at hn ⊢
  omega

/-! ### The cells of a state -/

theorem State.cell_set_self (s : State) (i : Nat) (c : Cell) (hi : i < s.cells.length) :
    ({ s with cells := s.cells.set i c } : State).cell i = c := by
  simp [State.cell, hi]

theorem State.cell_set_other (s : State) {i j : Nat} (c : Cell) (hij : i ≠ j) :
    ({ s with cells := s.cells.set i c } : State).cell j = s.cell j := by
  simp [State.cell, hij]

theorem getD_forgetAll (cs : List Cell) (ns : List Nat) (i : Nat) (d : Cell) (hi : i < cs.length) :
    (forgetAll cs ns).getD i d = (cs.getD i d).forget (ns.getD i 0) := by
  induction cs, ns using forgetAll.induct generalizing i with
  | case1 => simp at hi
  | case2 => simp [forgetAll, Cell.forget_zero]
  | case3 c cs n ns ih =>
    cases i with
    | zero => rfl
    | succ i => simpa [forgetAll] using ih i (by simpa using hi)

/-- All a load of cell `i` does; which visible value it returns is a draw (log 5). -/
theorem State.loadCell_eq (s : State) (i : Nat) : ∃ k d, k < (s.cell i).visible.length ∧
    s.loadCell i = { s with
      cells := s.cells.set i ((s.cell i).load k).2
      work := { s.work with latch := s.work.latch ++ [((s.cell i).load k).1] }
      port := { s.port with draws := d } } := by
  have hlen := (s.cell i).length_visible
  unfold State.loadCell
  by_cases hold : (s.cell i).older = []
  · refine ⟨0, s.port.draws, by omega, ?_⟩
    simp only [hold, if_true]
  · refine ⟨s.draw % ((s.cell i).older.length + 1), s.port.draws + 1, by rw [hlen]; exact Nat.mod_lt _ (Nat.succ_pos _), ?_⟩
    simp only [hold, if_false]
    rfl

/-- The unit `.load i` is one load of cell `i`, put at the end of the loaded values. -/
theorem State.audioStep_load (s : State) (i : Nat) (ops : List AudioOp) (hi : i < s.cells.length) (hb : s.seq.busy = true)
    (htodo : s.work.todo = .load i :: ops) :
    ∃ (t : State) (k : Nat) (w : Word), s.audioStep = .next t ∧ t.cells.length = s.cells.length ∧
      (s.cell i).visible[k]? = some w ∧ (t.cell i).visible = (s.cell i).visible.drop k ∧
      (t.cell i).latest = (s.cell i).latest ∧ (∀ j, j ≠ i → t.cell j = s.cell j) ∧
      t = { s with
        cells := t.cells, work := { s.work with todo := ops, latch := s.work.latch ++ [w] }
        port := { s.port with draws := t.port.draws } } := by
  obtain ⟨k, d, hk, hload⟩ := (s.drawn.withTodo ops).loadCell_eq i
  obtain ⟨hvalue, hdrop, hlatest⟩ := (s.cell i).load_spec k hk
  have hcell : ∀ c, (({ s with cells := s.cells.set i c } : State).cell i) = c := fun c => s.cell_set_self i c hi
  refine ⟨_, k, ((s.cell i).load k).1, (s.audioStep_of_todo _ ops hb htodo).trans (congrArg _ hload), ?_, hvalue, ?_, ?_,
    fun j hj => s.cell_set_other _ hj.symm, rfl⟩
  · exact List.length_set
  · exact (congrArg Cell.visible (hcell _)).trans hdrop
  · exact (congrArg Cell.latest (hcell _)).trans hlatest

/-! ### Polls (49_polyphony.md R322) -/

theorem State.poll_of_count (s : State) (h : s.fifo.count ≠ 0) :
    s.poll = some ((s.fifo.slots.getD s.fifo.head ⟨0, []⟩).word, { s with
      fifo := { s.fifo with head := (s.fifo.head + 1) % s.cfg.fifoDepth, count := s.fifo.count - 1 }
      cells := forgetAll s.cells (s.fifo.slots.getD s.fifo.head ⟨0, []⟩).seen }) := if_neg h

/-- What cell `i` still shows, and how many cells there are, survives `n` polls; the FIFO loses its `n` oldest packets. -/
theorem State.pollTimes_spec (i m : Nat) (l : List Word) (n : Nat) (s : State) (hn : n ≤ s.fifo.count)
    (hi : i < s.cells.length) (hhead : s.fifo.head < s.cfg.fifoDepth) (hl : (s.cell i).Tracks m l) :
    (s.pollTimes n).fifo =
      { s.fifo with head := (s.fifo.head + n) % s.cfg.fifoDepth, count := s.fifo.count - n } ∧
    (s.pollTimes n).cells.length = s.cells.length ∧ ((s.pollTimes n).cell i).Tracks m l := by
  induction n generalizing s with
  | zero => exact ⟨by rw [Nat.add_zero, Nat.mod_eq_of_lt hhead]; rfl, rfl, hl⟩
  | succ n ih =>
    have hcount : s.fifo.count ≠ 0 := by omega
    simp only [State.pollTimes, s.poll_of_count hcount]
    obtain ⟨hfifo, hlen, htrack⟩ := ih { s with
        fifo := { s.fifo with head := (s.fifo.head + 1) % s.cfg.fifoDepth, count := s.fifo.count - 1 }
        cells := forgetAll s.cells (s.fifo.slots.getD s.fifo.head ⟨0, []⟩).seen }
      (by simp only; omega) (by rwa [length_forgetAll]) (Nat.mod_lt _ (by omega))
      (by rw [State.cell, getD_forgetAll _ _ _ _ hi]; exact hl.forget _)
    refine ⟨?_, hlen.trans (length_forgetAll _ _), htrack⟩
    rw [hfifo]
    simp only [Nat.mod_add_mod, Nat.add_assoc, Nat.add_comm 1 n, Nat.sub_sub]

/-! ### Stores of CONTROL and loads of AUDIO between a push and its poll -/

/-- A store to a cell, or a load of it. -/
def State.touchCell (s : State) (y : Fin 12 × Option Word) : State :=
  match y.2 with
  | some v => s.storeCell y.1.val v
  | none => s.loadCell y.1.val

/-- The value a touch stores in cell `i`. -/
def storedIn (i : Fin 12) (y : Fin 12 × Option Word) : Option Word :=
  if y.1 = i then y.2.map (paramClamp i.val) else none

theorem State.touchCell_frame (s : State) (y : Fin 12 × Option Word) :
    (s.touchCell y).cfg = s.cfg ∧ (s.touchCell y).fifo = s.fifo ∧ (s.touchCell y).cells.length = s.cells.length := by
  obtain ⟨j, _ | v⟩ := y
  · obtain ⟨k, d, -, hload⟩ := s.loadCell_eq j.val
    simp only [State.touchCell, hload, List.length_set, and_self]
  · simp only [State.touchCell, State.storeCell, List.length_set, and_self]

theorem State.touchCell_tracks (s : State) (y : Fin 12 × Option Word) (i : Fin 12) (n : Nat) (l : List Word)
    (hlen : s.cells.length = 12) (h : (s.cell i.val).Tracks n l) :
    ((s.touchCell y).cell i.val).Tracks n (l ++ (storedIn i y).toList) := by
  have hi : i.val < s.cells.length := by rw [hlen]; exact i.isLt
  obtain ⟨j, v⟩ := y
  by_cases hj : j = i
  · subst hj
    cases v with
    | none =>
      obtain ⟨k, d, -, hload⟩ := s.loadCell_eq j.val
      have hcell : ((s.loadCell j.val).cell j.val) = (s.cell j.val).forget ((s.cell j.val).base + k) := by
        rw [hload]
        exact s.cell_set_self j.val _ hi
      simp only [State.touchCell, storedIn, hcell, Option.map_none, if_true, Option.toList_none, List.append_nil]
      exact h.forget _
    | some v =>
      have hcell : ((s.storeCell j.val v).cell j.val) = (s.cell j.val).store (paramClamp j.val v) :=
        s.cell_set_self j.val _ hi
      simp only [State.touchCell, storedIn, hcell, Option.map_some, if_true, Option.toList_some]
      exact h.store _
  · have hcell : (s.touchCell (j, v)).cell i.val = s.cell i.val := by
      have hne : j.val ≠ i.val := fun he => hj (Fin.ext he)
      cases v with
      | none =>
        obtain ⟨k, d, -, hload⟩ := s.loadCell_eq j.val
        simp only [State.touchCell, hload]
        exact s.cell_set_other _ hne
      | some v => exact s.cell_set_other _ hne
    simpa only [hcell, storedIn, if_neg hj, Option.toList_none, List.append_nil] using h

theorem State.touchCells_spec (i : Fin 12) (n : Nat) (between : List (Fin 12 × Option Word)) (s : State) (l : List Word)
    (hlen : s.cells.length = 12) (h : (s.cell i.val).Tracks n l) :
    (between.foldl State.touchCell s).cfg = s.cfg ∧ (between.foldl State.touchCell s).fifo = s.fifo ∧
    (between.foldl State.touchCell s).cells.length = 12 ∧
    ((between.foldl State.touchCell s).cell i.val).Tracks n (l ++ between.filterMap (storedIn i)) := by
  induction between generalizing s l with
  | nil => exact ⟨rfl, rfl, hlen, by simpa using h⟩
  | cons y ys ih =>
    obtain ⟨hcfg, hfifo, hcells⟩ := s.touchCell_frame y
    obtain ⟨hcfg', hfifo', hcells', htrack⟩ := ih (s.touchCell y) _ (hcells.trans hlen) (s.touchCell_tracks y i n l hlen h)
    refine ⟨hcfg'.trans hcfg, hfifo'.trans hfifo, hcells', ?_⟩
    have hlater : (y :: ys).filterMap (storedIn i) = (storedIn i y).toList ++ ys.filterMap (storedIn i) := by
      rw [List.filterMap_cons]
      cases storedIn i y <;> rfl
    rwa [hlater, ← List.append_assoc]

/-- The poll that returns a packet leaves of a cell the store that was its latest at the push, and later ones (R82). -/
theorem poll_after_push (t : State) (i : Fin 12) (w : Word) (p : Port) (between : List (Fin 12 × Option Word))
    (hlen : t.cells.length = 12) (hfifo : FifoInv t) (hcount : t.fifo.count < t.cfg.fifoDepth) :
    ∃ a, ((between.foldl State.touchCell { t with
        fifo := t.fifo.push t.cfg.fifoDepth ⟨w, t.cells.map Cell.issued⟩, port := p }).pollTimes t.fifo.count).poll =
        some (w, a) ∧
      (a.cell i.val).visible <:+ (t.cell i.val).latest :: between.filterMap (storedIn i) := by
  obtain ⟨hslots, hhead, -⟩ := hfifo
  have hi : i.val < t.cells.length := by rw [hlen]; exact i.isLt
  have hstart : (t.cell i.val).Tracks (t.cell i.val).issued [(t.cell i.val).latest] :=
    ⟨le_refl _, by rw [Cell.since_issued]⟩
  obtain ⟨hcfg, hfifo, hcells, htrack⟩ := State.touchCells_spec i (t.cell i.val).issued between { t with
    fifo := t.fifo.push t.cfg.fifoDepth ⟨w, t.cells.map Cell.issued⟩, port := p } _ hlen hstart
  generalize between.foldl State.touchCell _ = z at hcfg hfifo hcells htrack ⊢
  obtain ⟨hpolled, hpcells, hptrack⟩ := State.pollTimes_spec i.val _ _ t.fifo.count z (by rw [hfifo]; exact Nat.le_succ _)
    (by omega) (by rw [hfifo, hcfg]; exact hhead) htrack
  generalize z.pollTimes t.fifo.count = q at hpolled hpcells hptrack ⊢
  have hslot : q.fifo.slots.getD q.fifo.head ⟨0, []⟩ = ⟨w, t.cells.map Cell.issued⟩ := by
    have hlt : (t.fifo.head + t.fifo.count) % t.cfg.fifoDepth < t.fifo.slots.length := by
      rw [hslots]
      exact Nat.mod_lt _ (Nat.zero_lt_of_lt hcount)
    rw [hpolled, hfifo, hcfg]
    simp [Fifo.push, hlt]
  have hone : q.fifo.count ≠ 0 := by
    rw [hpolled, hfifo]
    simp [Fifo.push]
  refine ⟨_, (q.poll_of_count hone).trans (by rw [hslot]), ?_⟩
  have hcell : ({ q with
      fifo := { q.fifo with head := (q.fifo.head + 1) % q.cfg.fifoDepth, count := q.fifo.count - 1 }
      cells := forgetAll q.cells (t.cells.map Cell.issued) } : State).cell i.val =
      (q.cell i.val).forget (t.cell i.val).issued := by
    rw [State.cell, getD_forgetAll _ _ _ _ (by omega)]
    simp [State.cell, hi]
  obtain ⟨hissued, hsuffix⟩ := hptrack
  rw [hcell, Cell.visible_forget_eq_since _ _ hissued]
  exact hsuffix

/-- Settles O60: a packet carries the number of the cell's latest store, and its poll forgets the stores before. -/
theorem releaseAcquire : Obligations.ReleaseAcquire := by
  unfold Obligations.ReleaseAcquire
  refine ⟨fun s t u i w between hlen hfifo hcount ht hu => ?_, fun c k hk => ?_, fun s i ops hlen hi hb htodo => ?_⟩
  · have hkept : t.cells.length = 12 ∧ t.fifo = s.fifo ∧ t.cfg = s.cfg := by
      cases ht
      split
      · exact ⟨hlen, rfl, rfl⟩
      · exact ⟨by simpa [State.storeCell] using hlen, rfl, rfl⟩
    obtain ⟨htlen, htfifo, htcfg⟩ := hkept
    have hroom : t.fifo.count < t.cfg.fifoDepth := by rwa [htfifo, htcfg]
    have hpushed : u = { t with
        fifo := t.fifo.push t.cfg.fifoDepth ⟨w, t.cells.map Cell.issued⟩, port := { t.port with pushWait := none } } := by
      cases hu
      rw [if_pos hroom]
    subst hpushed
    rw [← htfifo]
    obtain ⟨a, hpoll, hsuffix⟩ := poll_after_push t i w { t.port with pushWait := none } between htlen
      (by rwa [FifoInv, htfifo, htcfg]) hroom
    refine ⟨a, hpoll, hsuffix, ?_⟩
    rintro rfl
    rcases List.suffix_cons_iff.mp hsuffix with heq | hnil
    · exact heq
    · have hempty := List.suffix_nil.mp hnil
      simp [Cell.visible] at hempty
  · obtain ⟨hvalue, hrest⟩ := c.load_spec k hk
    exact ⟨List.mem_of_getElem? hvalue, hrest⟩
  · obtain ⟨t, k, w, hstep, -, hload⟩ := s.audioStep_load i ops (by omega) hb htodo
    exact ⟨t, k, w, hstep, hload⟩

end Sys2Proof.Machine
end

section
/-! Family 20_memory, AUDIO alone: runs of its steps inside a phase, and what its units do when nothing else moves
(20_memory.md R84; log 12). -/

namespace Sys2Proof.Machine

/-! ### Runs -/

/-- `n` steps of AUDIO alone lead from `s` to `t`, and every state before the last is in the phase of the first. -/
def AudioRuns (n : Nat) (s t : State) : Prop :=
  audioRun n s = .next t ∧ ∀ m, m < n → ∃ u, audioRun m s = .next u ∧ u.seq.phase = s.seq.phase

theorem audioRun_add (m n : Nat) (s t : State) (h : audioRun m s = .next t) : audioRun (m + n) s = audioRun n t := by
  induction m generalizing s with
  | zero =>
    cases h
    rw [Nat.zero_add]
  | succ m ih =>
    obtain ⟨u, hu⟩ := s.audioStep_next
    rw [Nat.add_right_comm]
    simp only [audioRun, hu] at h ⊢
    exact ih u h

theorem AudioRuns.refl (s : State) : AudioRuns 0 s s := ⟨rfl, fun _ hm => absurd hm (Nat.not_lt_zero _)⟩

theorem AudioRuns.step {s t : State} (h : s.audioStep = .next t) : AudioRuns 1 s t := by
  refine ⟨by simp only [audioRun, h], fun m hm => ?_⟩
  obtain rfl : m = 0 := by omega
  exact ⟨s, rfl, rfl⟩

theorem AudioRuns.trans {m n : Nat} {s t u : State} (h : AudioRuns m s t) (hphase : t.seq.phase = s.seq.phase)
    (h' : AudioRuns n t u) : AudioRuns (m + n) s u := by
  obtain ⟨hrun, hbefore⟩ := h
  obtain ⟨hrun', hbefore'⟩ := h'
  refine ⟨(audioRun_add m n s t hrun).trans hrun', fun k hk => ?_⟩
  rcases Nat.lt_or_ge k m with hlt | hge
  · exact hbefore k hlt
  · obtain ⟨x, hx, hxphase⟩ := hbefore' (k - m) (by omega)
    refine ⟨x, ?_, hxphase.trans hphase⟩
    rw [← hx, ← audioRun_add m (k - m) s t hrun, Nat.add_sub_cancel' hge]

/-! ### What AUDIO never touches -/

/-- The state AUDIO has no unit for. -/
def State.outsideAudio (s : State) : Cfg × Regs × FaultRegs × Osc × Port :=
  (s.cfg, s.regs, s.flt, s.sine0, { s.port with draws := 0 })

theorem State.eq_of_outsideAudio {s t : State} (h : t.outsideAudio = s.outsideAudio) : t = { s with
    seq := t.seq, work := t.work, fifo := t.fifo, cells := t.cells, sent := t.sent, mix := t.mix, voices := t.voices
    lastStolen := t.lastStolen, mem := t.mem, port := { s.port with draws := t.port.draws } } := by
  obtain ⟨cfg, seq, work, regs, flt, fifo, cells, sent, mix, sine0, voices, last, mem, port⟩ := t
  simp only [State.outsideAudio, Prod.mk.injEq] at h
  obtain ⟨rfl, rfl, rfl, rfl, hport⟩ := h
  simp only [State.mk.injEq, true_and]
  calc port = { ({ port with draws := 0 } : Port) with draws := port.draws } := rfl
    _ = _ := by rw [hport]

theorem State.outsideAudio_setSm (s : State) (id : SmId) (m : Smoother) :
    (s.setSm id m).outsideAudio = s.outsideAudio := by
  cases id <;> rfl

theorem State.runOp_ladder_eq (s : State) (v : Nat) : ∃ x w, s.runOp (.ladder v) = (s.setVoice v x).setTmp w := ⟨_, _, rfl⟩

theorem State.outsideAudio_runOp (s : State) (op : AudioOp) : (s.runOp op).outsideAudio = s.outsideAudio := by
  cases op with
  | load i =>
    obtain ⟨k, d, -, hload⟩ := s.loadCell_eq i
    rw [State.runOp, hload]
    rfl
  | w1 id | w2 id | e3 id => exact s.outsideAudio_setSm id _
  | e1 id =>
    simp only [State.runOp]
    split
    · rfl
    · exact s.outsideAudio_setSm id _
  | clear i =>
    simp only [State.runOp]
    split <;> rfl
  | conv i =>
    simp only [State.runOp, State.convertCell]
    split <;> rfl
  | voice v =>
    rw [State.runOp]
    obtain h | ⟨x, w, h⟩ := s.startVoice_eq v
    · rw [h]
    · rw [h]
      rfl
  | ladder v =>
    obtain ⟨x, w, h⟩ := s.runOp_ladder_eq v
    rw [h]
    rfl
  | _ => rfl

theorem State.outsideAudio_nextUnits (s : State) : s.nextUnits.outsideAudio = s.outsideAudio := by
  unfold State.nextUnits
  split
  case h_4 | h_5 => split <;> rfl
  all_goals rfl

theorem State.outsideAudio_audioStep (s t : State) (h : s.audioStep = .next t) : t.outsideAudio = s.outsideAudio := by
  unfold State.audioStep at h
  split_ifs at h
  · split at h
    · rename_i w u hp
      obtain ⟨vs, last, ops, rfl, -⟩ := exec_evt_effect _ u t (formOf_decodeEvt w) h
      unfold State.poll at hp
      split_ifs at hp
      cases hp
      rfl
    · cases h
      exact s.drawn.outsideAudio_nextUnits
  · cases h
    unfold State.audioUnit
    split
    · exact State.outsideAudio_runOp _ _
    · exact s.drawn.outsideAudio_nextUnits
  · cases h
    rfl

theorem outsideAudio_audioRun (n : Nat) (s t : State) (h : audioRun n s = .next t) : t.outsideAudio = s.outsideAudio := by
  induction n generalizing s with
  | zero =>
    cases h
    rfl
  | succ n ih =>
    obtain ⟨u, hu⟩ := s.audioStep_next
    simp only [audioRun, hu] at h
    exact (ih u h).trans (s.outsideAudio_audioStep u hu)

/-! ### Runs that hang on no draw -/

/-- The state with its draw counter at `d`. -/
def State.withDraws (s : State) (d : Nat) : State := { s with port := { s.port with draws := d } }

/-- Whatever the draw counter, AUDIO alone goes from `s` to `t` inside the phase of `s`, and every step moves the counter. -/
def AudioReaches (s t : State) : Prop := ∀ d, ∃ n, AudioRuns n (s.withDraws d) (t.withDraws (d + n))

theorem AudioReaches.run {s t : State} (h : AudioReaches s t) :
    ∃ n, AudioRuns n s { t with port := { t.port with draws := s.port.draws + n } } := h s.port.draws

theorem AudioReaches.refl (s : State) : AudioReaches s s := fun _ => ⟨0, AudioRuns.refl _⟩

theorem AudioReaches.trans {s t u : State} (h : AudioReaches s t) (h' : AudioReaches t u)
    (hphase : t.seq.phase = s.seq.phase) : AudioReaches s u := by
  intro d
  obtain ⟨m, hm⟩ := h d
  obtain ⟨n, hn⟩ := h' (d + m)
  exact ⟨m + n, Nat.add_assoc d m n ▸ hm.trans hphase hn⟩

theorem State.setSm_withDraws (s : State) (id : SmId) (m : Smoother) (d : Nat) :
    (s.withDraws d).setSm id m = (s.setSm id m).withDraws d := by
  cases id <;> rfl

theorem State.sm_withDraws (s : State) (id : SmId) (d : Nat) : (s.withDraws d).sm id = s.sm id := by
  cases id <;> rfl

theorem State.withDraws_ite (p : Prop) [Decidable p] (s t : State) (d : Nat) :
    (if p then s else t).withDraws d = if p then s.withDraws d else t.withDraws d :=
  apply_ite (fun u : State => u.withDraws d) p s t

/-- A load is the only unit that asks for a draw. -/
theorem State.runOp_withDraws (s : State) (op : AudioOp) (d : Nat) (h : ∀ i, op ≠ .load i) :
    (s.withDraws d).runOp op = (s.runOp op).withDraws d := by
  cases op with
  | load i => exact absurd rfl (h i)
  | w1 id | w2 id | e2 id | e3 id => simp only [State.runOp, State.sm_withDraws, State.setSm_withDraws] <;> rfl
  | e1 id =>
    simp only [State.runOp, State.sm_withDraws, State.setSm_withDraws, State.withDraws_ite]
    rfl
  | clear i =>
    simp only [State.runOp, State.withDraws_ite]
    rfl
  | conv i =>
    simp only [State.runOp, State.convertCell, State.withDraws_ite]
    rfl
  | voice v =>
    simp only [State.runOp, State.startVoice, State.withDraws_ite]
    rfl
  | _ => rfl

theorem State.nextUnits_withDraws (s : State) (d : Nat) : (s.withDraws d).nextUnits = s.nextUnits.withDraws d := by
  have hseq : (s.withDraws d).seq = s.seq := rfl
  cases hphase : s.seq.phase with
  | clear | drain | sample =>
    simp only [State.nextUnits, hseq, hphase]
    rfl
  | frames | gain =>
    simp only [State.nextUnits, hseq, hphase, State.withDraws_ite]
    rfl

theorem AudioReaches.unit {s : State} {op : AudioOp} {ops : List AudioOp} (hb : s.seq.busy = true)
    (htodo : s.work.todo = op :: ops) (hop : ∀ i, op ≠ .load i) : AudioReaches s ((s.withTodo ops).runOp op) := by
  intro d
  refine ⟨1, .step ?_⟩
  rw [(s.withDraws d).audioStep_of_todo op ops hb htodo, ← State.runOp_withDraws _ _ _ hop]
  rfl

/-- The end of a phase or a frame, outside DRAIN. -/
theorem AudioReaches.next {s : State} (hb : s.seq.busy = true) (htodo : s.work.todo = [])
    (hphase : s.seq.phase ≠ .drain) : AudioReaches s s.nextUnits := by
  intro d
  refine ⟨1, .step ?_⟩
  have hpolls : (s.withDraws d).polls = false := by
    simp [State.polls, State.withDraws, hphase]
  have hbusy : (s.withDraws d).seq.busy = true := hb
  have hunit : (s.withDraws d).drawn.audioUnit = (s.withDraws d).drawn.nextUnits := by
    unfold State.audioUnit
    rw [show (s.withDraws d).drawn.work.todo = [] from htodo]
  rw [← s.nextUnits_withDraws]
  simp only [State.audioStep, hpolls, hbusy, hunit, Bool.false_eq_true, if_false, if_true]
  rfl

/-! ### Units that leave the list of units alone -/

@[simp] theorem State.withTodo_seq (s : State) (ops : List AudioOp) : (s.withTodo ops).seq = s.seq := rfl
@[simp] theorem State.withTodo_cfg (s : State) (ops : List AudioOp) : (s.withTodo ops).cfg = s.cfg := rfl
@[simp] theorem State.withTodo_voices (s : State) (ops : List AudioOp) : (s.withTodo ops).voices = s.voices := rfl
@[simp] theorem State.withTodo_todo (s : State) (ops : List AudioOp) : (s.withTodo ops).work.todo = ops := rfl

@[simp] theorem State.withTodo_withTodo (s : State) (ops ops' : List AudioOp) :
    (s.withTodo ops).withTodo ops' = s.withTodo ops' := rfl

@[simp] theorem State.sm_withTodo (s : State) (id : SmId) (ops : List AudioOp) : (s.withTodo ops).sm id = s.sm id := by
  cases id <;> rfl

theorem State.setSm_withTodo (s : State) (id : SmId) (m : Smoother) (ops : List AudioOp) :
    (s.withTodo ops).setSm id m = (s.setSm id m).withTodo ops := by
  cases id <;> rfl

/-- The unit asks for no draw, adds no unit and stays in the phase. -/
def AudioOp.simple (op : AudioOp) : Bool :=
  match op with
  | .clear _ | .load _ | .conv _ | .enter _ | .e1 _ | .e2 _ | .voice _ => false
  | .w1 _ _ | .w2 _ | .envOn _ | .e3 _ _ | .mixStart | .envSus _ | .envTime _ _ | .envFsm _ | .ladder _ => true
  | .out _ | .mix | .mixStore _ | .gainLoad _ | .gainStore _ | .frameNext => true

theorem State.storeOut_withTodo (s : State) (b : Bool) (i : Nat) (w : Word) (ops : List AudioOp) :
    (s.withTodo ops).storeOut b i w = (s.storeOut b i w).withTodo ops := by
  unfold State.storeOut
  rw [State.withTodo_seq]
  split <;> rfl

theorem State.runOp_withTodo (s : State) (op : AudioOp) (ops : List AudioOp) (h : op.simple = true) :
    (s.withTodo ops).runOp op = (s.runOp op).withTodo ops := by
  cases op with
  | clear | load | conv | enter | e1 | e2 | voice => cases h
  | w1 id | w2 id | e3 id => simp only [State.runOp, State.sm_withTodo, State.setSm_withTodo]
  | mixStore i => exact s.storeOut_withTodo _ i _ ops
  | gainStore i => exact s.storeOut_withTodo _ i _ ops
  | _ => rfl

theorem State.runOp_seq (s : State) (op : AudioOp) (h : op.simple = true) :
    (s.runOp op).seq.busy = s.seq.busy ∧ (s.runOp op).seq.phase = s.seq.phase := by
  cases op with
  | clear | load | conv | enter | e1 | e2 | voice => cases h
  | w1 id | w2 id | e3 id => simp only [State.runOp, State.setSm_seq, and_self]
  | _ => exact ⟨rfl, rfl⟩

theorem State.withTodo_self (s : State) (ops : List AudioOp) (h : s.work.todo = ops) : s.withTodo ops = s := by
  rw [← h]
  rfl

theorem foldl_runOp_withTodo (ops : List AudioOp) (s : State) (rest : List AudioOp)
    (hops : ∀ op ∈ ops, op.simple = true) :
    ops.foldl State.runOp (s.withTodo rest) = (ops.foldl State.runOp s).withTodo rest := by
  induction ops generalizing s with
  | nil => rfl
  | cons op ops ih =>
    rw [List.foldl_cons, s.runOp_withTodo op rest (hops op List.mem_cons_self),
      ih _ fun o ho => hops o (List.mem_cons_of_mem op ho), List.foldl_cons]

/-- Such units one after another. -/
theorem AudioReaches.simples {s : State} {ops rest : List AudioOp} (hb : s.seq.busy = true)
    (hops : ∀ op ∈ ops, op.simple = true) (htodo : s.work.todo = ops ++ rest) :
    AudioReaches s ((ops.foldl State.runOp s).withTodo rest) := by
  induction ops generalizing s with
  | nil =>
    rw [List.foldl_nil, s.withTodo_self rest htodo]
    exact .refl s
  | cons op ops ih =>
    have hop := hops op List.mem_cons_self
    have hrestops : ∀ o ∈ ops, o.simple = true := fun o ho => hops o (List.mem_cons_of_mem op ho)
    obtain ⟨hbusy, hphase⟩ := s.runOp_seq op hop
    have hfirst : AudioReaches s ((s.withTodo (ops ++ rest)).runOp op) :=
      .unit hb htodo fun i hi => by rw [hi] at hop; cases hop
    have hrest := ih (s := (s.runOp op).withTodo (ops ++ rest)) (by simpa [hbusy] using hb) hrestops rfl
    rw [State.runOp_withTodo _ _ _ hop] at hfirst
    rw [foldl_runOp_withTodo _ _ _ hrestops, State.withTodo_withTodo] at hrest
    exact hfirst.trans hrest (by simp [hphase])

/-! ### The units of a smoother (44_smoother.md R221, R223) -/

/-- E1, and E2 and E3 where a target waits, are `sm_next` when no other agent moves between. -/
theorem AudioReaches.smNext {s : State} {id : SmId} {ops : List AudioOp} (hb : s.seq.busy = true)
    (htodo : s.work.todo = .e1 id :: ops) : AudioReaches s ((s.withTodo ops).setSm id (s.sm id).next) := by
  have he1 : AudioReaches s ((s.withTodo ops).runOp (.e1 id)) := .unit hb htodo nofun
  simp only [State.runOp, State.sm_withTodo] at he1
  cases hnew : (s.sm id).hasNew with
  | false => simpa [hnew, Smoother.next] using he1
  | true =>
    rw [if_pos hnew] at he1
    have he2 : AudioReaches (s.withTodo (.e2 id :: ops)) ((s.withTodo ops).runOp (.e2 id)) := .unit hb rfl nofun
    have he3 : AudioReaches (s.withTodo (.e3 id (s.sm id).pending :: ops)) ((s.withTodo ops).runOp (.e3 id (s.sm id).pending)) :=
      .unit hb rfl nofun
    simp only [State.runOp, State.sm_withTodo] at he2 he3
    simp only [Smoother.next, hnew, if_true]
    exact he1.trans (he2.trans he3 rfl) rfl

/-- The smoother events of several ids in a row. -/
def State.nextSms (s : State) (ids : List SmId) : State := ids.foldl (fun x id => x.setSm id (x.sm id).next) s

theorem AudioReaches.smNexts {s : State} {ids : List SmId} {rest : List AudioOp} (hb : s.seq.busy = true)
    (htodo : s.work.todo = ids.map .e1 ++ rest) : AudioReaches s ((s.withTodo rest).nextSms ids) := by
  induction ids generalizing s with
  | nil =>
    rw [s.withTodo_self rest htodo]
    exact .refl s
  | cons id ids ih =>
    have hfirst := AudioReaches.smNext hb htodo
    have hrest := ih (s := (s.withTodo (ids.map .e1 ++ rest)).setSm id (s.sm id).next) (by simpa using hb) (by simp)
    refine hfirst.trans ?_ (by simp)
    simpa [State.nextSms, State.setSm_withTodo] using hrest

end Sys2Proof.Machine
end

section
/-! Family 20_memory, FRAMES: AUDIO's units of one frame are `voice_render` of every voice that sounds, summed, scaled and stored
(20_memory.md R84, 48_voice.md R310, 49_polyphony.md R338). -/

namespace Sys2Proof.Machine

/-! ### The units of one voice -/

theorem State.voice_withTodo (s : State) (v : Nat) (ops : List AudioOp) : (s.withTodo ops).voice v = s.voice v := rfl

theorem State.setVoice_withTodo (s : State) (v : Nat) (x : Voice) (ops : List AudioOp) :
    (s.withTodo ops).setVoice v x = (s.setVoice v x).withTodo ops := rfl

/-- Of two writes of a voice the second stays. -/
theorem State.setVoice_setVoice (s : State) (v : Nat) (x y : Voice) : (s.setVoice v x).setVoice v y = s.setVoice v y := by
  simp only [State.setVoice, List.set_set]

/-- AUDIO's units `ops` do to voice `v` what the function does, and nothing else. -/
def VoiceUnits (v : Nat) (ops : List AudioOp) (f : Voice → Voice) : Prop :=
  ∀ (s : State) (rest : List AudioOp), s.seq.busy = true → v < s.voices.length → s.work.todo = ops ++ rest →
    AudioReaches s ((s.setVoice v (f (s.voice v))).withTodo rest)

theorem VoiceUnits.append {v : Nat} {ops ops' : List AudioOp} {f g : Voice → Voice} (h : VoiceUnits v ops f)
    (h' : VoiceUnits v ops' g) : VoiceUnits v (ops ++ ops') fun x => g (f x) := by
  intro s rest hb hv htodo
  have hfirst := h s (ops' ++ rest) hb hv (by rw [htodo, List.append_assoc])
  have hthen := h' ((s.setVoice v (f (s.voice v))).withTodo (ops' ++ rest)) rest hb (by simpa using hv) rfl
  rw [State.voice_withTodo, State.voice_setVoice_self _ _ _ hv, State.setVoice_withTodo, State.setVoice_setVoice,
    State.withTodo_withTodo] at hthen
  exact hfirst.trans hthen rfl

theorem VoiceUnits.e1 (v : Nat) (k : VoiceSm) : VoiceUnits v [.e1 (.voice v k)] fun x => x.nextSm k :=
  fun _ _ hb _ htodo => AudioReaches.smNext hb htodo

/-- A unit that writes voice `v` alone, from what it was. -/
theorem VoiceUnits.of_runOp {v : Nat} {op : AudioOp} {f : Voice → Voice} (hop : ∀ i, op ≠ .load i)
    (h : ∀ s : State, s.runOp op = s.setVoice v (f (s.voice v))) : VoiceUnits v [op] f := by
  intro s rest hb _ htodo
  have hrun := AudioReaches.unit hb htodo hop
  rwa [h, State.voice_withTodo, State.setVoice_withTodo] at hrun

theorem VoiceUnits.envSus (v : Nat) : VoiceUnits v [.envSus v] Voice.latchSustain := .of_runOp nofun fun _ => rfl

theorem VoiceUnits.envTime (v : Nat) (f : TimeField) : VoiceUnits v [.envTime v f] fun x => x.latchTime f :=
  .of_runOp nofun fun _ => rfl

theorem VoiceUnits.envFsm (v : Nat) : VoiceUnits v [.envFsm v] Voice.tickState := .of_runOp nofun fun _ => rfl

/-- The units of the tick (46_envelope.md R266). -/
def tickOps (v : Nat) : List AudioOp :=
  [.e1 (.voice v .sus), .envSus v, .e1 (.voice v .att), .envTime v .attack, .e1 (.voice v .dec), .envTime v .decay,
    .e1 (.voice v .rel), .envTime v .release, .envFsm v]

theorem renderOps_eq (v : Nat) : renderOps v = tickOps v ++ [.ladder v, .e1 (.voice v .vel), .out v] := rfl

theorem VoiceUnits.envTick (v : Nat) : VoiceUnits v (tickOps v) Voice.envTick := by
  have h := ((((((((VoiceUnits.e1 v .sus).append (.envSus v)).append (.e1 v .att)).append (.envTime v .attack)).append
    (.e1 v .dec)).append (.envTime v .decay)).append (.e1 v .rel)).append (.envTime v .release)).append (.envFsm v)
  exact h

/-- The state with voice `v`, the two values AUDIO carries between units, and the units to be done, all given. -/
def State.carry (s : State) (v : Nat) (x : Voice) (tmp acc : Word) (ops : List AudioOp) : State :=
  { s with voices := s.voices.set v x, work := { s.work with todo := ops, acc := acc, tmp := tmp } }

section
variable {s : State} {v : Nat} {x : Voice} {tmp acc : Word} {rest : List AudioOp}

theorem State.voice_carry (ops : List AudioOp) (hv : v < s.voices.length) : (s.carry v x tmp acc ops).voice v = x :=
  s.voice_setVoice_self v x hv

variable (hb : s.seq.busy = true) (hv : v < s.voices.length)
include hb hv

theorem VoiceUnits.carry {ops : List AudioOp} {f : Voice → Voice} (h : VoiceUnits v ops f) :
    AudioReaches (s.carry v x tmp acc (ops ++ rest)) (s.carry v (f x) tmp acc rest) := by
  have hrun := h (s.carry v x tmp acc (ops ++ rest)) rest hb (by simpa [State.carry] using hv) rfl
  rw [State.voice_carry _ hv] at hrun
  have hend : ((s.carry v x tmp acc (ops ++ rest)).setVoice v (f x)).withTodo rest = s.carry v (f x) tmp acc rest :=
    by simp only [State.carry, State.setVoice, State.withTodo, List.set_set]
  rwa [hend] at hrun

/-- The filter, on the mixed sample in `tmp` (48_voice.md R310). -/
theorem AudioReaches.ladder : AudioReaches (s.carry v x tmp acc (.ladder v :: rest))
    (s.carry v (x.filter s.cfg s.sent tmp).2 (x.filter s.cfg s.sent tmp).1 acc rest) := by
  have hrun : AudioReaches (s.carry v x tmp acc (.ladder v :: rest)) ((s.carry v x tmp acc rest).runOp (.ladder v)) :=
    .unit hb rfl nofun
  rw [State.runOp, State.voice_carry _ hv] at hrun
  have hend : ∀ r : Word × Voice, ((s.carry v x tmp acc rest).setVoice v r.2).setTmp r.1 = s.carry v r.2 r.1 acc rest :=
    fun r => by simp only [State.carry, State.setVoice, State.setTmp, List.set_set]
  rw [hend] at hrun
  exact hrun

/-- The velocity product, added to the accumulator (48_voice.md R310). -/
theorem AudioReaches.out : AudioReaches (s.carry v x tmp acc (.out v :: rest))
    (s.carry v x tmp (fadd acc (fmul tmp x.vel.current)) rest) := by
  have hrun : AudioReaches (s.carry v x tmp acc (.out v :: rest)) ((s.carry v x tmp acc rest).runOp (.out v)) :=
    .unit hb rfl nofun
  rw [State.runOp, State.voice_carry _ hv] at hrun
  exact hrun

/-- The units of a voice after its oscillator part. -/
theorem AudioReaches.renderOps :
    let b := x.envTick.filter s.cfg s.sent tmp
    let y := b.2.nextSm .vel
    AudioReaches (s.carry v x tmp acc (renderOps v ++ rest))
      (s.carry v y b.1 (fadd acc (fmul b.1 y.vel.current)) rest) := by
  intro b y
  have htick : AudioReaches (s.carry v x tmp acc (Machine.renderOps v ++ rest))
      (s.carry v x.envTick tmp acc (.ladder v :: .e1 (.voice v .vel) :: .out v :: rest)) := by
    rw [renderOps_eq, List.append_assoc]
    exact VoiceUnits.carry hb hv (VoiceUnits.envTick v)
  have hladder : AudioReaches (s.carry v x.envTick tmp acc (.ladder v :: .e1 (.voice v .vel) :: .out v :: rest))
      (s.carry v b.2 b.1 acc (.e1 (.voice v .vel) :: .out v :: rest)) := .ladder hb hv
  have hvel : AudioReaches (s.carry v b.2 b.1 acc (.e1 (.voice v .vel) :: .out v :: rest))
      (s.carry v y b.1 acc (.out v :: rest)) := VoiceUnits.carry hb hv (VoiceUnits.e1 v .vel)
  exact htick.trans (hladder.trans (hvel.trans (.out hb hv) rfl) rfl) rfl

end

/-- Voice `v`'s share of a frame: nothing while it is Idle, else `voice_render`, its output added to the accumulator; the
filter's output stays behind in `tmp` (log 12). -/
def State.renderVoice (s : State) (v : Nat) : State :=
  if (s.voice v).env.state = .idle then s
  else
    let osc := (s.voice v).oscMix s.mix
    let r := (s.voice v).render s.cfg s.mix s.sent
    s.carry v r.2 (osc.2.envTick.filter s.cfg s.sent osc.1).1 (fadd s.work.acc r.1) s.work.todo

theorem State.renderVoice_of_idle (s : State) (v : Nat) (h : (s.voice v).env.state = .idle) : s.renderVoice v = s := if_pos h

theorem State.renderVoice_of_sounding (s : State) (v : Nat) (h : (s.voice v).env.state ≠ .idle) :
    ∃ tmp, s.renderVoice v = s.carry v ((s.voice v).render s.cfg s.mix s.sent).2 tmp
      (fadd s.work.acc ((s.voice v).render s.cfg s.mix s.sent).1) s.work.todo := ⟨_, if_neg h⟩

theorem State.renderVoice_withTodo (s : State) (v : Nat) (ops : List AudioOp) :
    (s.withTodo ops).renderVoice v = (s.renderVoice v).withTodo ops := by
  by_cases hidle : (s.voice v).env.state = .idle
  · rw [State.renderVoice_of_idle s v hidle, State.renderVoice_of_idle (s.withTodo ops) v hidle]
  · rw [State.renderVoice, State.renderVoice, State.voice_withTodo, if_neg hidle, if_neg hidle]
    rfl

/-- AUDIO's units for voice `v` are its share of the frame. -/
theorem AudioReaches.renderVoice {s : State} {v : Nat} {rest : List AudioOp} (hb : s.seq.busy = true)
    (hv : v < s.voices.length) (htodo : s.work.todo = .voice v :: rest) :
    AudioReaches s ((s.renderVoice v).withTodo rest) := by
  have hstart : AudioReaches s ((s.withTodo rest).startVoice v) := .unit hb htodo nofun
  rw [State.startVoice, State.voice_withTodo] at hstart
  by_cases hidle : (s.voice v).env.state = .idle
  · rw [if_pos hidle] at hstart
    rwa [State.renderVoice_of_idle _ _ hidle]
  · rw [if_neg hidle] at hstart
    rw [State.renderVoice, if_neg hidle]
    have hosc : ∀ r : Word × Voice, (((s.withTodo rest).setVoice v r.2).setTmp r.1).doFirst (Machine.renderOps v) =
        s.carry v r.2 r.1 s.work.acc (Machine.renderOps v ++ rest) := fun _ => rfl
    dsimp only at hstart
    rw [hosc] at hstart
    exact hstart.trans (.renderOps hb hv) rfl

end Sys2Proof.Machine
end

section
/-! Family 20_memory, FRAMES: one frame of AUDIO alone (49_polyphony.md R338). -/

namespace Sys2Proof.Machine

/-! ### The sum of the voices -/

theorem fadd_eq_add (a b : Word) : fadd a b = a + b := by
  simp [fadd, BitVec.ofInt_add]

theorem fshra_eq_sshiftRight (a : Word) (n : Nat) : fshra a n = a.sshiftRight n := by
  simp [fshra, asr, BitVec.sshiftRight, Int.shiftRight_eq_div_pow]

theorem mixScale_eq (c : Cfg) (acc : Word) : mixScale c acc = fclamp (acc.sshiftRight c.mixShift) (-32768) 32767 := by
  rw [mixScale, fshra_eq_sshiftRight]
  rfl

/-- What voice `v` adds to a frame's sum. -/
def State.voiceOut (s : State) (v : Nat) : Word :=
  if (s.voice v).env.state = .idle then 0 else ((s.voice v).render s.cfg s.mix s.sent).1

/-- Voice `v` after a frame. -/
def State.voiceAfter (s : State) (v : Nat) : Voice :=
  if (s.voice v).env.state = .idle then s.voice v else ((s.voice v).render s.cfg s.mix s.sent).2

/-- A voice's share of a frame, Idle or not: the voice, the sum, and what stays behind in `tmp`. -/
theorem State.renderVoice_eq (s : State) (v : Nat) (hv : v < s.voices.length) :
    ∃ tmp, s.renderVoice v = s.carry v (s.voiceAfter v) tmp (s.work.acc + s.voiceOut v) s.work.todo := by
  by_cases hidle : (s.voice v).env.state = .idle
  · refine ⟨s.work.tmp, ?_⟩
    have hsame : s.voices.set v (s.voice v) = s.voices := by
      simp [State.voice, hv]
    have hsum : s.work.acc + 0 = s.work.acc := BitVec.add_zero s.work.acc
    rw [s.renderVoice_of_idle v hidle, State.voiceOut, State.voiceAfter, if_pos hidle, if_pos hidle, State.carry, hsame, hsum]
  · obtain ⟨tmp, hrender⟩ := s.renderVoice_of_sounding v hidle
    exact ⟨tmp, by rw [hrender, State.voiceOut, State.voiceAfter, if_neg hidle, if_neg hidle, fadd_eq_add]⟩

/-- The first `n` voices of a frame: each takes its own step, and the accumulator their sum. -/
theorem renderVoices_spec (s : State) (n : Nat) (hn : n ≤ s.voices.length) : ∃ vs tmp,
    (List.range n).foldl State.renderVoice s = { s with
      voices := vs
      work := { s.work with
        acc := ((List.range n).map s.voiceOut).foldl (fun a y => a + y) s.work.acc, tmp := tmp } } ∧
    vs.length = s.voices.length ∧
    ∀ v, ({ s with voices := vs } : State).voice v = if v < n then s.voiceAfter v else s.voice v := by
  induction n with
  | zero => exact ⟨s.voices, s.work.tmp, rfl, rfl, fun v => by simp⟩
  | succ n ih =>
    obtain ⟨vs, tmp, hfold, hlen, hvoice⟩ := ih (by omega)
    rw [List.range_succ, List.foldl_append, List.map_append, List.foldl_append, hfold]
    generalize ((List.range n).map s.voiceOut).foldl (fun a y => a + y) s.work.acc = acc
    obtain ⟨tmp', hrender⟩ := State.renderVoice_eq { s with voices := vs, work := { s.work with acc := acc, tmp := tmp } } n
      (by simp only; omega)
    have hnow : ({ s with voices := vs, work := { s.work with acc := acc, tmp := tmp } } : State).voice n = s.voice n :=
      (hvoice n).trans (if_neg (Nat.lt_irrefl n))
    simp only [State.voiceAfter, State.voiceOut, hnow] at hrender
    refine ⟨vs.set n (s.voiceAfter n), tmp', hrender, by simpa using hlen, fun v => ?_⟩
    rcases eq_or_ne n v with rfl | hne
    · rw [if_pos (Nat.lt_succ_self n)]
      exact State.voice_setVoice_self { s with voices := vs } n _ (by simp only; omega)
    · refine (State.voice_setVoice_other { s with voices := vs } n v (s.voiceAfter n) hne).trans ?_
      rw [hvoice v]
      exact if_congr (by omega) rfl rfl

theorem renderVoices_withTodo (s : State) (vs : List Nat) (ops : List AudioOp) :
    vs.foldl State.renderVoice (s.withTodo ops) = (vs.foldl State.renderVoice s).withTodo ops := by
  induction vs generalizing s with
  | nil => rfl
  | cons v vs ih => rw [List.foldl_cons, State.renderVoice_withTodo, ih, List.foldl_cons]

theorem State.renderVoice_seq_voices (s : State) (v : Nat) :
    (s.renderVoice v).seq = s.seq ∧ (s.renderVoice v).voices.length = s.voices.length := by
  unfold State.renderVoice
  split
  · exact ⟨rfl, rfl⟩
  · exact ⟨rfl, by simp [State.carry]⟩

/-- AUDIO's units for some voices in a row. -/
theorem AudioReaches.renderVoices {s : State} {vs : List Nat} {rest : List AudioOp} (hb : s.seq.busy = true)
    (hvs : ∀ v ∈ vs, v < s.voices.length) (htodo : s.work.todo = vs.map .voice ++ rest) :
    AudioReaches s ((vs.foldl State.renderVoice s).withTodo rest) := by
  induction vs generalizing s with
  | nil =>
    rw [List.foldl_nil, s.withTodo_self rest htodo]
    exact .refl s
  | cons v vs ih =>
    obtain ⟨hseq, hlen⟩ := s.renderVoice_seq_voices v
    have hfirst := AudioReaches.renderVoice hb (hvs v List.mem_cons_self) htodo
    have hrest := ih (s := (s.renderVoice v).withTodo (vs.map .voice ++ rest)) (by simpa [hseq] using hb)
      (fun u hu => by simpa [hlen] using hvs u (List.mem_cons_of_mem v hu)) rfl
    rw [renderVoices_withTodo, State.withTodo_withTodo] at hrest
    exact hfirst.trans hrest (by simp [hseq])

/-! ### The two words of a frame -/

theorem State.storeOut_eq (s : State) (b : Bool) (i : Nat) (w : Word) : ∃ past, s.storeOut b i w = { s with
    mem := s.mem.writeWord (outOffset b i) w, work := { s.work with past := past } } := by
  unfold State.storeOut
  split
  · exact ⟨_, rfl⟩
  · exact ⟨s.work.past, rfl⟩

/-- All that two stores in a row do. -/
theorem State.storeOut_pair_eq (s : State) (b : Bool) (i j : Nat) (x y : Word) : ∃ past,
    (s.storeOut b i x).storeOut b j y = { s with
      mem := ((s.storeOut b i x).storeOut b j y).mem, work := { s.work with past := past } } := by
  obtain ⟨past, hstore⟩ := s.storeOut_eq b i x
  obtain ⟨past', hstore'⟩ := (s.storeOut b i x).storeOut_eq b j y
  refine ⟨past', ?_⟩
  rw [hstore', hstore]

/-- Both words of frame `f` stored, and nothing else. -/
theorem State.storePair_spec {s : State} (h : MemoryInv s) (b : Bool) (f : Nat) (x y : Word) :
    let t := (s.storeOut b (2 * f) x).storeOut b (2 * f + 1) y
    t.outWord b (2 * f) = x ∧ t.outWord b (2 * f + 1) = y ∧
      ∀ a, (a < outOffset b (2 * f) ∨ outOffset b (2 * f) + 8 ≤ a) → t.mem.readByte a = s.mem.readByte a := by
  intro t
  have h' := s.storeOut_wf b (2 * f) x h
  refine ⟨?_, State.outWord_storeOut_self h' b _ y, fun a ha => ?_⟩
  · rw [State.outWord_storeOut_other h' b (by omega) y, State.outWord_storeOut_self h]
  · rw [State.readByte_storeOut_other h' b _ y a (by simp only [outOffset] at ha ⊢; omega),
      State.readByte_storeOut_other h b _ x a (by omega)]

theorem State.storeOut_tmp (s : State) (b : Bool) (i : Nat) (w : Word) : (s.storeOut b i w).work.tmp = s.work.tmp := by
  obtain ⟨past, hstore⟩ := s.storeOut_eq b i w
  rw [hstore]

/-- The end of a frame: the sum scaled and clamped, stored in both words, and the frame counted. -/
theorem AudioReaches.mixEnd {s : State} {f : Nat} {y : Word} (hb : s.seq.busy = true)
    (hy : mixScale s.cfg s.work.acc = y)
    (htodo : s.work.todo = [.mix, .mixStore (2 * f), .mixStore (2 * f + 1), .frameNext]) :
    ∃ past, AudioReaches s { s with
      seq := { s.seq with frame := s.seq.frame + 1 }
      mem := ((s.storeOut s.seq.buf (2 * f) y).storeOut s.seq.buf (2 * f + 1) y).mem
      work := { s.work with todo := [], tmp := y, past := past } } := by
  have hrun := AudioReaches.simples (rest := []) hb (by simp [AudioOp.simple]) (htodo.trans (List.append_nil _).symm)
  obtain ⟨past, hpair⟩ := (s.setTmp y).storeOut_pair_eq s.seq.buf (2 * f) (2 * f + 1) y y
  refine ⟨past, ?_⟩
  simp only [List.foldl_cons, List.foldl_nil, State.runOp, hy, State.storeOut_tmp, State.setTmp_tmp, State.storeOut_seq,
    State.setTmp_seq] at hrun
  rw [hpair] at hrun
  exact hrun

/-! ### One frame -/

/-- The five smoothers of the mix that a frame of FRAMES advances (49_polyphony.md R338). -/
def mixIds : List SmId :=
  [.global .sawLvl, .global .pulseLvl, .global .subLvl, .global .noiseLvl, .global .pulseW]

def Mix.nextFive (m : Mix) : Mix :=
  { m with
    sawLvl := m.sawLvl.next, pulseLvl := m.pulseLvl.next, subLvl := m.subLvl.next
    noiseLvl := m.noiseLvl.next, pulseW := m.pulseW.next }

theorem State.nextSms_mixIds (s : State) : s.nextSms mixIds = { s with mix := s.mix.nextFive } := by
  simp only [State.nextSms, mixIds, List.foldl_cons, List.foldl_nil, State.setSm, State.sm, Mix.set, Mix.get, Mix.nextFive]

/-- The state at the start of a frame's voices, and what comes after them. -/
def State.mixing (s : State) (ops : List AudioOp) : State :=
  { s with mix := s.mix.nextFive, work := { s.work with todo := ops, acc := 0 } }

def mixEndOps (f : Nat) : List AudioOp := [.mix, .mixStore (2 * f), .mixStore (2 * f + 1), .frameNext]

theorem State.nextUnits_of_frame (s : State) (hphase : s.seq.phase = .frames) (htodo : s.work.todo = [])
    (hf : s.seq.frame < s.cfg.frames) : s.nextUnits = s.withTodo (frameOps s.cfg s.seq.frame) := by
  simp only [State.nextUnits, hphase, if_pos hf, State.doFirst, htodo, List.append_nil]
  rfl

/-- The smoothers and the accumulator, before the voices of a frame. -/
theorem AudioReaches.mixing {s : State} (hb : s.seq.busy = true) (hphase : s.seq.phase = .frames) (htodo : s.work.todo = [])
    (hf : s.seq.frame < s.cfg.frames) :
    AudioReaches s (s.mixing ((List.range s.cfg.nvoices).map .voice ++ mixEndOps s.seq.frame)) := by
  generalize hrest : (List.range s.cfg.nvoices).map AudioOp.voice ++ mixEndOps s.seq.frame = rest
  have hops : frameOps s.cfg s.seq.frame = mixIds.map .e1 ++ .mixStart :: rest := by
    rw [← hrest]
    simp [frameOps, mixIds, mixEndOps]
  have hstart : AudioReaches s (s.withTodo (mixIds.map .e1 ++ .mixStart :: rest)) := by
    rw [← hops, ← s.nextUnits_of_frame hphase htodo hf]
    exact .next hb htodo (by rw [hphase]; exact nofun)
  have hsms : AudioReaches (s.withTodo (mixIds.map .e1 ++ .mixStart :: rest))
      ((s.withTodo (.mixStart :: rest)).nextSms mixIds) := .smNexts hb rfl
  rw [State.nextSms_mixIds] at hsms
  have hclear : AudioReaches { s.withTodo (.mixStart :: rest) with mix := s.mix.nextFive } (s.mixing rest) :=
    .unit (op := .mixStart) hb rfl nofun
  exact hstart.trans (hsms.trans hclear rfl) rfl

/-- AUDIO alone, from the start of a frame of FRAMES to its end. -/
theorem AudioReaches.frame {s : State} (hn : s.voices.length = s.cfg.nvoices) (hb : s.seq.busy = true)
    (hphase : s.seq.phase = .frames) (htodo : s.work.todo = []) (hf : s.seq.frame < s.cfg.frames) {u : State} {y : Word}
    (hu : { s with mix := s.mix.nextFive } = u)
    (hy : mixScale s.cfg (((List.range s.cfg.nvoices).map u.voiceOut).foldl (fun a x => a + x) 0) = y) :
    ∃ (vs : List Voice) (k : Work), k.todo = [] ∧
      (∀ v, v < s.cfg.nvoices → ({ s with voices := vs } : State).voice v = u.voiceAfter v) ∧
      AudioReaches s { s with
        seq := { s.seq with frame := s.seq.frame + 1 }, mix := s.mix.nextFive, voices := vs
        mem := ((s.storeOut s.seq.buf (2 * s.seq.frame) y).storeOut s.seq.buf (2 * s.seq.frame + 1) y).mem
        work := k } := by
  subst hu
  generalize hops : (List.range s.cfg.nvoices).map AudioOp.voice ++ mixEndOps s.seq.frame = ops
  obtain ⟨vs, tmp, hfold, hlen, hvoice⟩ := renderVoices_spec (s.mixing ops) s.cfg.nvoices (by rw [← hn]; exact le_refl _)
  have hvoices := AudioReaches.renderVoices (s := s.mixing ops) (vs := List.range s.cfg.nvoices)
    (rest := mixEndOps s.seq.frame) hb (fun v hv => by rw [List.mem_range] at hv; exact hn ▸ hv) hops.symm
  rw [hfold] at hvoices
  obtain ⟨past, hend⟩ := AudioReaches.mixEnd (s := ({ s.mixing ops with
      voices := vs
      work := { (s.mixing ops).work with
        acc := ((List.range s.cfg.nvoices).map (s.mixing ops).voiceOut).foldl (fun a y => a + y) 0
        tmp := tmp } } : State).withTodo (mixEndOps s.seq.frame)) (f := s.seq.frame) hb hy rfl
  refine ⟨vs, _, ?_, fun v hv => (hvoice v).trans (if_pos hv),
    (AudioReaches.mixing hb hphase htodo hf).trans ((hops ▸ hvoices).trans hend rfl) rfl⟩
  rfl

/-- Settles O57: a voice's units are its share of the frame, and the frame is the smoothers, the voices' shares and the store of
their sum. -/
theorem audioRendersVoice : Obligations.AudioRendersVoice := by
  unfold Obligations.AudioRendersVoice
  refine ⟨fun s v ops hb _ hv htodo => ?_, fun s hn hmem hb hphase htodo hf => ?_⟩
  · obtain ⟨n, hrun, -⟩ := (AudioReaches.renderVoice hb hv htodo).run
    refine ⟨n, _, hrun, fun hidle => ?_, fun hsounds => ?_⟩
    · rw [s.renderVoice_of_idle v hidle]
      rfl
    · obtain ⟨tmp, hrender⟩ := s.renderVoice_of_sounding v hsounds
      exact ⟨tmp, by rw [hrender]; rfl⟩
  · generalize hy : mixScale s.cfg (((List.range s.cfg.nvoices).map
      ({ s with mix := s.mix.nextFive } : State).voiceOut).foldl (fun a x => a + x) 0) = y
    obtain ⟨vs, k, hk, hvoice, hreach⟩ := AudioReaches.frame hn hb hphase htodo hf rfl hy
    obtain ⟨n, hrun, -⟩ := hreach.run
    obtain ⟨hleft, hright, hrest⟩ := State.storePair_spec hmem s.seq.buf s.seq.frame y y
    rw [mixScale_eq] at hy
    subst hy
    refine ⟨n, _, hrun, rfl, fun v hv hidle => ?_, fun v hv hsounds => ?_, hleft, hright, hrest, ?_⟩
    · exact (hvoice v hv).trans (if_pos hidle)
    · exact (hvoice v hv).trans (if_neg hsounds)
    · obtain ⟨todo, latch, acc, tmp, past⟩ := k
      cases hk
      rfl

end Sys2Proof.Machine
end

section
/-! Family 20_memory, the phases of a fill: CLEAR, GAIN's frames and SAMPLE's units, each as AUDIO alone runs them
(49_polyphony.md R337, R339, R340). -/

namespace Sys2Proof.Machine

/-! ### CLEAR (49_polyphony.md R340) -/

/-- One unit of CLEAR: the word, and the next word or DRAIN. -/
theorem AudioReaches.clearWord {s : State} {i : Nat} {ops : List AudioOp} (hb : s.seq.busy = true)
    (htodo : s.work.todo = .clear i :: ops) : ∃ past, AudioReaches s { s with
      mem := (s.storeOut s.seq.buf i 0).mem
      work := { s.work with
        todo := (if i + 1 < s.cfg.bufWords then .clear (i + 1) else .enter .drain) :: ops, past := past } } := by
  have hunit : AudioReaches s ((s.withTodo ops).runOp (.clear i)) := .unit hb htodo nofun
  obtain ⟨past, hstore⟩ := s.storeOut_eq s.seq.buf i 0
  simp only [State.runOp, State.withTodo_seq, State.withTodo_cfg, State.storeOut_withTodo, hstore] at hunit
  refine ⟨past, ?_⟩
  split_ifs at hunit ⊢ <;> exact hunit

/-- CLEAR from word `i` to the end of the buffer (word `i` alone where it is past the end), and into DRAIN. -/
theorem AudioReaches.clear {s : State} {i : Nat} {ops : List AudioOp} (hb : s.seq.busy = true)
    (htodo : s.work.todo = .clear i :: ops) : ∃ m past,
    AudioReaches s { s with
      seq := { s.seq with phase := .drain }, mem := m, work := { s.work with todo := ops, past := past } } ∧
    (MemoryInv s → (∀ j, i ≤ j → j < s.cfg.bufWords → m.readWord (outOffset s.seq.buf j) = 0) ∧
      ∀ a, (a < outOffset s.seq.buf i ∨ outOffset s.seq.buf (max s.cfg.bufWords (i + 1)) ≤ a) →
        m.readByte a = s.mem.readByte a) := by
  obtain ⟨past, hword⟩ := AudioReaches.clearWord hb htodo
  induction hk : s.cfg.bufWords - (i + 1) generalizing s i past with
  | zero =>
    rw [if_neg (by omega)] at hword
    refine ⟨_, past, hword.trans (.unit (op := .enter .drain) hb rfl nofun) rfl, fun hmem => ⟨fun j hij hj => ?_, fun a ha => ?_⟩⟩
    · obtain rfl : j = i := by omega
      exact State.outWord_storeOut_self hmem _ j 0
    · refine State.readByte_storeOut_other hmem _ i 0 a ?_
      rw [Nat.max_eq_right (by omega)] at ha
      simp only [outOffset] at ha ⊢
      omega
  | succ k ih =>
    rw [if_pos (by omega)] at hword
    obtain ⟨past', hword'⟩ := AudioReaches.clearWord (s := { s with
      mem := (s.storeOut s.seq.buf i 0).mem
      work := { s.work with todo := .clear (i + 1) :: ops, past := past } }) hb rfl
    obtain ⟨m, past'', hrest, hcleared⟩ := ih (s := { s with
      mem := (s.storeOut s.seq.buf i 0).mem
      work := { s.work with todo := .clear (i + 1) :: ops, past := past } }) hb rfl past' hword' (by simp only; omega)
    refine ⟨m, past'', hword.trans hrest rfl, fun hmem => ?_⟩
    obtain ⟨hzero, hkept⟩ := hcleared (s.storeOut_wf _ i 0 hmem)
    refine ⟨fun j hij hj => ?_, fun a ha => ?_⟩
    · rcases Nat.lt_or_eq_of_le hij with hlt | rfl
      · exact hzero j hlt hj
      · rw [← State.outWord_storeOut_self hmem s.seq.buf i 0]
        exact Memory.readWord_congr _ _ _ fun k hk => hkept _ (.inl (by simp only [outOffset]; omega))
    · rw [Nat.max_eq_left (by omega)] at ha
      rw [hkept a (by
        simp only [Nat.max_eq_left (show i + 1 + 1 ≤ s.cfg.bufWords by omega)]
        simp only [outOffset] at ha ⊢
        omega)]
      exact State.readByte_storeOut_other hmem _ i 0 a (by simp only [outOffset] at ha ⊢; omega)

/-! ### GAIN (49_polyphony.md R339) -/

theorem State.nextUnits_of_gain_frame (s : State) (hphase : s.seq.phase = .gain) (htodo : s.work.todo = [])
    (hf : s.seq.frame < s.cfg.frames) : s.nextUnits = s.withTodo (gainOps s.seq.frame) := by
  simp only [State.nextUnits, hphase, if_pos hf, State.doFirst, htodo, List.append_nil]
  rfl

/-- One word of GAIN: read, multiplied, stored. -/
theorem AudioReaches.gainWord {s : State} {i : Nat} {w : Word} {ops : List AudioOp} (hb : s.seq.busy = true)
    (hw : fmul (s.outWord s.seq.buf i) s.mix.masterVol.current = w)
    (htodo : s.work.todo = .gainLoad i :: .gainStore i :: ops) : ∃ tmp past, AudioReaches s { s with
      mem := (s.storeOut s.seq.buf i w).mem, work := { s.work with todo := ops, tmp := tmp, past := past } } := by
  have hrun := AudioReaches.simples (ops := [.gainLoad i, .gainStore i]) (rest := ops) hb (by simp [AudioOp.simple]) htodo
  obtain ⟨past, hstore⟩ := (s.setTmp (s.outWord s.seq.buf i)).storeOut_eq s.seq.buf i w
  simp only [List.foldl_cons, List.foldl_nil, State.runOp, State.setTmp_tmp, State.setTmp_seq, State.setTmp_mix, hw,
    hstore] at hrun
  exact ⟨_, past, hrun⟩

/-- AUDIO alone, from the start of a frame of GAIN to its end. -/
theorem AudioReaches.gainFrame {s : State} (hmem : MemoryInv s) (hb : s.seq.busy = true) (hphase : s.seq.phase = .gain)
    (htodo : s.work.todo = []) (hf : s.seq.frame < s.cfg.frames) {x y : Word}
    (hx : fmul (s.outWord s.seq.buf (2 * s.seq.frame)) s.mix.masterVol.next.current = x)
    (hy : fmul (s.outWord s.seq.buf (2 * s.seq.frame + 1)) s.mix.masterVol.next.current = y) :
    ∃ k : Work, k.todo = [] ∧ AudioReaches s { s with
      seq := { s.seq with frame := s.seq.frame + 1 }, mix := { s.mix with masterVol := s.mix.masterVol.next }
      mem := ((s.storeOut s.seq.buf (2 * s.seq.frame) x).storeOut s.seq.buf (2 * s.seq.frame + 1) y).mem
      work := k } := by
  have hstart : AudioReaches s (s.withTodo (gainOps s.seq.frame)) := by
    rw [← s.nextUnits_of_gain_frame hphase htodo hf]
    exact .next hb htodo (by rw [hphase]; exact nofun)
  have hvol := AudioReaches.smNext (s := s.withTodo (gainOps s.seq.frame)) (id := .global .masterVol) hb rfl
  obtain ⟨tmp, past, hleft⟩ := AudioReaches.gainWord (s := { s with
    mix := { s.mix with masterVol := s.mix.masterVol.next }
    work := { s.work with todo := (gainOps s.seq.frame).tail } }) hb hx rfl
  have hother : (s.storeOut s.seq.buf (2 * s.seq.frame) x).outWord s.seq.buf (2 * s.seq.frame + 1) =
      s.outWord s.seq.buf (2 * s.seq.frame + 1) := State.outWord_storeOut_other hmem _ (by omega) x
  rw [← hother] at hy
  obtain ⟨tmp', past', hright⟩ := AudioReaches.gainWord (s := { s with
    mix := { s.mix with masterVol := s.mix.masterVol.next }
    mem := (s.storeOut s.seq.buf (2 * s.seq.frame) x).mem
    work := { s.work with todo := (gainOps s.seq.frame).tail.tail.tail, tmp := tmp, past := past } }) hb hy rfl
  refine ⟨_, ?_, hstart.trans (hvol.trans (hleft.trans (hright.trans (.unit (op := .frameNext) hb rfl nofun) rfl) rfl) rfl)
    rfl⟩
  rfl

/-! ### SAMPLE (49_polyphony.md R337) -/

theorem Sampled.get_set_self (p : Sampled) (i : Nat) (x : Word) (hi : i < 12) : (p.set i x).get i = x := by
  interval_cases i <;> rfl

theorem Sampled.get_set_other (p : Sampled) (i j : Nat) (x : Word) (hi : i < 12) (hj : j < 12) (hij : i ≠ j) :
    (p.set i x).get j = p.get j := by
  interval_cases i <;> interval_cases j
  any_goals rfl
  all_goals exact absurd rfl hij

/-- What a set_target can change of the smoothers: their mailboxes (44_smoother.md R221). -/
def SameButMailboxes (s : State) (m : Mix) (vs : List Voice) : Prop :=
  m.noMailboxes = s.mix.noMailboxes ∧ vs.map Voice.noMailboxes = s.voices.map Voice.noMailboxes

theorem State.setSm_eq (s : State) (id : SmId) (x : Smoother) : ∃ m vs,
    s.setSm id x = { s with mix := m, voices := vs } := by
  cases id <;> exact ⟨_, _, rfl⟩

theorem sameButMailboxes_of_audioView {s t : State} (h : t.audioView = s.audioView) : SameButMailboxes s t.mix t.voices :=
  ⟨congrArg AudioView.mix h, congrArg AudioView.voices h⟩

/-- AUDIO's W1 and W2 of one set_target. -/
theorem AudioReaches.setTarget {s : State} {x : Word} {id : SmId} {rest : List AudioOp} (hb : s.seq.busy = true)
    (htodo : s.work.todo = .w1 id x :: .w2 id :: rest) : ∃ m vs, SameButMailboxes s m vs ∧
    AudioReaches s { s with mix := m, voices := vs, work := { s.work with todo := rest } } := by
  have hrun := AudioReaches.simples (ops := [.w1 id x, .w2 id]) (rest := rest) hb (by simp [AudioOp.simple]) htodo
  simp only [List.foldl_cons, List.foldl_nil, State.runOp] at hrun
  generalize hu : s.setSm id ((s.sm id).storePending x) = u at hrun
  have hpend : ((s.sm id).storePending x).noMailbox = (s.sm id).noMailbox := rfl
  have hflag : (u.sm id).storeFlag.noMailbox = (u.sm id).noMailbox := rfl
  have hview : (u.setSm id (u.sm id).storeFlag).audioView = s.audioView := by
    rw [State.audioView_setSm u id hflag, ← hu, State.audioView_setSm s id hpend]
  obtain ⟨m, vs, hpending⟩ := s.setSm_eq id ((s.sm id).storePending x)
  obtain ⟨m', vs', hboth⟩ := u.setSm_eq id (u.sm id).storeFlag
  rw [hboth] at hrun hview
  rw [hpending] at hu
  subst hu
  exact ⟨m', vs', sameButMailboxes_of_audioView hview, hrun⟩

/-- AUDIO's set_targets one after another. -/
theorem AudioReaches.setTargets {s : State} {x : Word} {ids : List SmId} {rest : List AudioOp} (hb : s.seq.busy = true)
    (htodo : s.work.todo = setTargetOps x ids ++ rest) : ∃ m vs, SameButMailboxes s m vs ∧
    AudioReaches s { s with mix := m, voices := vs, work := { s.work with todo := rest } } := by
  induction ids generalizing s with
  | nil => exact ⟨s.mix, s.voices, ⟨rfl, rfl⟩, .simples (ops := []) hb nofun htodo⟩
  | cons id ids ih =>
    obtain ⟨m, vs, ⟨hm, hvs⟩, hfirst⟩ := AudioReaches.setTarget (rest := setTargetOps x ids ++ rest) hb htodo
    obtain ⟨m', vs', ⟨hm', hvs'⟩, hrest⟩ := ih (s := { s with
      mix := m, voices := vs, work := { s.work with todo := setTargetOps x ids ++ rest } }) hb rfl
    exact ⟨m', vs', ⟨hm'.trans hm, hvs'.trans hvs⟩, hfirst.trans hrest rfl⟩

/-- One conversion and its set_targets: cell `i`'s register takes the converted value, the others stay. -/
theorem AudioReaches.convert {s : State} {i : Nat} {rest : List AudioOp} (hi : i < 12) (hb : s.seq.busy = true)
    (htodo : s.work.todo = .conv i :: rest) : ∃ p m vs, SameButMailboxes s m vs ∧
    p.get i = sampleValue s.cfg i (s.work.latch.getD i 0) ∧ (∀ j, j < 12 → i ≠ j → p.get j = s.sent.get j) ∧
    AudioReaches s { s with sent := p, mix := m, voices := vs, work := { s.work with todo := rest } } := by
  have hunit : AudioReaches s ((s.withTodo rest).convertCell i) := .unit hb htodo nofun
  generalize hx : sampleValue s.cfg i (s.work.latch.getD i 0) = x
  have hx' : sampleValue (s.withTodo rest).cfg i ((s.withTodo rest).work.latch.getD i 0) = x := hx
  simp only [State.convertCell, hx'] at hunit
  by_cases hsent : x = s.sent.get i
  · rw [if_pos (by exact hsent)] at hunit
    exact ⟨s.sent, s.mix, s.voices, ⟨rfl, rfl⟩, hsent.symm, fun _ _ _ => rfl, hunit⟩
  · rw [if_neg (by exact hsent)] at hunit
    obtain ⟨m, vs, hsame, htargets⟩ := AudioReaches.setTargets (s := { s with
      sent := s.sent.set i x
      work := { s.work with todo := setTargetOps x (sampleTargets s.cfg i) ++ rest } }) hb rfl
    exact ⟨s.sent.set i x, m, vs, hsame, s.sent.get_set_self i x hi, fun j hj hij => s.sent.get_set_other i j x hi hj hij,
      hunit.trans htargets rfl⟩

/-- The conversions of some cells one after another. -/
theorem AudioReaches.converts {s : State} {is : List Nat} {rest : List AudioOp} (his : ∀ i ∈ is, i < 12)
    (hb : s.seq.busy = true) (htodo : s.work.todo = is.map .conv ++ rest) : ∃ p m vs, SameButMailboxes s m vs ∧
    (∀ i ∈ is, p.get i = sampleValue s.cfg i (s.work.latch.getD i 0)) ∧
    (∀ j, j < 12 → j ∉ is → p.get j = s.sent.get j) ∧
    AudioReaches s { s with sent := p, mix := m, voices := vs, work := { s.work with todo := rest } } := by
  induction is generalizing s with
  | nil => exact ⟨s.sent, s.mix, s.voices, ⟨rfl, rfl⟩, nofun, fun _ _ _ => rfl, .simples (ops := []) hb nofun htodo⟩
  | cons i is ih =>
    obtain ⟨p, m, vs, ⟨hm, hvs⟩, hself, hother, hfirst⟩ :=
      AudioReaches.convert (rest := is.map .conv ++ rest) (his i List.mem_cons_self) hb (by simpa using htodo)
    obtain ⟨p', m', vs', ⟨hm', hvs'⟩, hself', hother', hrest⟩ := ih (s := { s with
      sent := p, mix := m, voices := vs, work := { s.work with todo := is.map .conv ++ rest } })
      (fun j hj => his j (List.mem_cons_of_mem i hj)) hb rfl
    refine ⟨p', m', vs', ⟨hm'.trans hm, hvs'.trans hvs⟩, fun j hj => ?_, fun j hj hjs => ?_, hfirst.trans hrest rfl⟩
    · by_cases hlater : j ∈ is
      · exact hself' j hlater
      · obtain rfl : j = i := (List.mem_cons.mp hj).resolve_right hlater
        exact (hother' j (his j List.mem_cons_self) hlater).trans hself
    · obtain ⟨hne, hlater⟩ := not_or.mp (mt List.mem_cons.mpr hjs)
      exact (hother' j hj hlater).trans (hother j hj (Ne.symm hne))

/-- The loads of the cells `k` to `k + m - 1`, one after another. -/
theorem AudioRuns.loads {s : State} {k m : Nat} {rest : List AudioOp} (hkm : k + m ≤ s.cells.length)
    (hb : s.seq.busy = true) (htodo : s.work.todo = (List.range' k m).map .load ++ rest) : ∃ n cs ws d,
    AudioRuns n s { s with
      cells := cs, work := { s.work with todo := rest, latch := s.work.latch ++ ws }, port := { s.port with draws := d } } ∧
    cs.length = s.cells.length ∧
    (∀ i, i < m → ∃ (j : Nat) (w : Word), (s.cell (k + i)).visible[j]? = some w ∧ ws[i]? = some w ∧
      (({ s with cells := cs } : State).cell (k + i)).visible = (s.cell (k + i)).visible.drop j) ∧
    ∀ i, i < k → ({ s with cells := cs } : State).cell i = s.cell i := by
  induction m generalizing s k with
  | zero =>
    refine ⟨0, s.cells, [], s.port.draws, ?_, rfl, nofun, fun _ _ => rfl⟩
    have hsame : s.withTodo rest = s := s.withTodo_self rest htodo
    have hnone : AudioRuns 0 s (s.withTodo rest) := by
      rw [hsame]
      exact .refl s
    rw [List.append_nil]
    exact hnone
  | succ m ih =>
    obtain ⟨t, j, w, hstep, hlen, hvalue, hdrop, -, hothers, ht⟩ :=
      s.audioStep_load k ((List.range' (k + 1) m).map .load ++ rest) (by omega) hb
        (by simpa [List.range'_succ] using htodo)
    obtain ⟨cs, d, rfl⟩ : ∃ cs d, t = { s with
        cells := cs
        work := { s.work with todo := (List.range' (k + 1) m).map .load ++ rest, latch := s.work.latch ++ [w] }
        port := { s.port with draws := d } } := ⟨t.cells, t.port.draws, ht⟩
    obtain ⟨n, cs', ws, d', hruns, hlen', hloaded, hkept⟩ := ih (s := { s with
        cells := cs
        work := { s.work with todo := (List.range' (k + 1) m).map .load ++ rest, latch := s.work.latch ++ [w] }
        port := { s.port with draws := d } }) (k := k + 1) (by simp only at hlen ⊢; omega) hb rfl
    refine ⟨1 + n, cs', w :: ws, d', ?_, hlen'.trans hlen, fun i hi => ?_, fun i hi => ?_⟩
    · have := (AudioRuns.step hstep).trans rfl hruns
      simpa using this
    · cases i with
      | zero => exact ⟨j, w, hvalue, rfl, (congrArg Cell.visible (hkept k (Nat.lt_succ_self k))).trans hdrop⟩
      | succ i =>
        obtain ⟨j', w', hvalue', hw', hdrop'⟩ := hloaded i (by omega)
        have hcell := hothers (k + 1 + i) (by omega)
        rw [hcell] at hvalue' hdrop'
        rw [← Nat.add_assoc, Nat.add_right_comm]
        exact ⟨j', w', hvalue', hw', hdrop'⟩
    · exact (hkept i (by omega)).trans (hothers i (by omega))

/-- The order of `sample_params`'s conversions. -/
def convOrder : List Nat := [0, 1, 3, 2, 4, 5, 6, 7, 8, 11, 9, 10]

theorem mem_convOrder (i : Nat) : i ∈ convOrder ↔ i < 12 := by
  simp only [convOrder, List.mem_cons, List.not_mem_nil, or_false]
  omega

theorem State.nextUnits_of_sample (s : State) (hphase : s.seq.phase = .sample) (htodo : s.work.todo = []) :
    s.nextUnits = s.withTodo sampleOps := by
  simp only [State.nextUnits, hphase, State.doFirst, htodo, List.append_nil]
  rfl

/-- AUDIO alone, from the start of SAMPLE to its end. -/
theorem AudioRuns.sample {s : State} (hcells : s.cells.length = 12) (hb : s.seq.busy = true) (hphase : s.seq.phase = .sample)
    (htodo : s.work.todo = []) (hlatch : s.work.latch = []) : ∃ n cs ws p m vs d,
    AudioRuns n s { s with
      seq := { s.seq with phase := .frames }, cells := cs, sent := p, mix := m, voices := vs
      work := { s.work with todo := [], latch := ws }, port := { s.port with draws := d } } ∧
    cs.length = 12 ∧ SameButMailboxes s m vs ∧
    ∀ i, i < 12 → ∃ (k : Nat) (w : Word), (s.cell i).visible[k]? = some w ∧ p.get i = sampleValue s.cfg i w ∧
      (({ s with cells := cs } : State).cell i).visible = (s.cell i).visible.drop k := by
  generalize hrest : convOrder.map AudioOp.conv ++ [.enter .frames] = rest
  have hops : s.nextUnits = s.withTodo ((List.range' 0 12).map .load ++ rest) := by
    rw [s.nextUnits_of_sample hphase htodo, ← hrest]
    rfl
  obtain ⟨n, hstart⟩ := (AudioReaches.next hb htodo (by rw [hphase]; exact nofun)).run
  rw [hops] at hstart
  obtain ⟨n', cs, ws, d, hloads, hlen, hloaded, -⟩ := AudioRuns.loads (s := { s with
    work := { s.work with todo := (List.range' 0 12).map .load ++ rest }
    port := { s.port with draws := s.port.draws + n } }) (k := 0) (m := 12) (rest := rest)
    (by simp only [hcells]; omega) hb rfl
  obtain ⟨p, m, vs, hsame, hconv, -, hconvs⟩ := AudioReaches.converts (s := { s with
    cells := cs, work := { s.work with todo := rest, latch := ws }, port := { s.port with draws := d } })
    (fun i hi => (mem_convOrder i).mp hi) hb hrest.symm
  obtain ⟨n'', hend⟩ := (hconvs.trans (.unit (op := .enter .frames) hb rfl nofun) rfl).run
  have hws : s.work.latch ++ ws = ws := by rw [hlatch, List.nil_append]
  simp only [hws] at hloads
  refine ⟨_, cs, ws, p, m, vs, d + n'', (hstart.trans rfl hloads).trans rfl hend, hlen.trans hcells, hsame, fun i hi => ?_⟩
  obtain ⟨k, w, hvalue, hw, hdrop⟩ := hloaded i hi
  rw [Nat.zero_add] at hvalue hdrop
  refine ⟨k, w, hvalue, ?_, hdrop⟩
  rw [hconv i ((mem_convOrder i).mpr hi), List.getD_eq_getElem?_getD, hw]
  rfl

end Sys2Proof.Machine
end

section
/-! Family 20_memory, a fill from its start to its end: DRAIN, the phases in their order, and why AUDIO alone ends every fill
(49_polyphony.md R340). -/

namespace Sys2Proof.Machine

/-! ### DRAIN (49_polyphony.md R340) -/

theorem State.polls_of_drain {s : State} (hb : s.seq.busy = true) (hphase : s.seq.phase = .drain)
    (htodo : s.work.todo = []) : s.polls = true := by
  simp [State.polls, hb, hphase, htodo]

/-- A poll that returns None ends DRAIN. -/
theorem State.audioStep_of_empty {s : State} (hb : s.seq.busy = true) (hphase : s.seq.phase = .drain)
    (htodo : s.work.todo = []) (hcount : s.fifo.count = 0) : s.audioStep = .next { s.drawn with
      seq := { s.seq with phase := .sample }, work := { s.work with latch := [] } } := by
  have hpoll : s.drawn.poll = none := if_pos hcount
  have hphase' : s.drawn.seq.phase = .drain := hphase
  simp only [State.audioStep, State.polls_of_drain hb hphase htodo, if_true, hpoll, State.nextUnits, hphase']
  rfl

/-- A poll that returns a packet applies it at once; what is left of a note-on are three units. -/
theorem State.audioStep_of_packet {s : State} (hb : s.seq.busy = true) (hphase : s.seq.phase = .drain)
    (htodo : s.work.todo = []) (hcount : s.fifo.count ≠ 0) : ∃ f cs vs last ops, f.count = s.fifo.count - 1 ∧
    (ops = [] ∨ ∃ v x, ops = [.w1 (.voice v .vel) x, .w2 (.voice v .vel), .envOn v]) ∧ s.audioStep = .next { s.drawn with
      fifo := f, cells := cs, voices := vs, lastStolen := last, work := { s.work with todo := ops } } := by
  have hpoll := s.drawn.poll_of_count hcount
  generalize (s.drawn.fifo.slots.getD s.drawn.fifo.head ⟨0, []⟩).word = w at hpoll
  generalize hu : ({ s.drawn with
      fifo := { s.drawn.fifo with head := (s.drawn.fifo.head + 1) % s.drawn.cfg.fifoDepth, count := s.drawn.fifo.count - 1 }
      cells := forgetAll s.drawn.cells (s.drawn.fifo.slots.getD s.drawn.fifo.head ⟨0, []⟩).seen } : State) = u at hpoll
  obtain ⟨t, ht⟩ := exec_next (decodeEvt w) u
  have hstep : s.audioStep = .next t := by
    simp only [State.audioStep, State.polls_of_drain hb hphase htodo, if_true, hpoll, ht]
  obtain ⟨vs, last, ops, rfl, hops⟩ := exec_evt_effect _ u t (formOf_decodeEvt w) ht
  subst hu
  have htodo' : s.drawn.work.todo = [] := htodo
  simp only [htodo', List.append_nil] at hstep
  exact ⟨_, _, vs, last, ops, rfl, hops, hstep⟩

/-- AUDIO takes one packet off the FIFO and applies it whole. -/
theorem AudioRuns.packet {s : State} (hb : s.seq.busy = true) (hphase : s.seq.phase = .drain) (htodo : s.work.todo = [])
    (hcount : s.fifo.count ≠ 0) : ∃ n t, AudioRuns n s t ∧ t.work.todo = [] ∧ t.fifo.count = s.fifo.count - 1 ∧
      t.seq = s.seq ∧ t.sent = s.sent ∧ t.mem = s.mem := by
  obtain ⟨f, cs, vs, last, ops, hf, hops, hstep⟩ := State.audioStep_of_packet hb hphase htodo hcount
  rcases hops with rfl | ⟨v, x, rfl⟩
  · exact ⟨1, _, .step hstep, rfl, hf, rfl, rfl, rfl⟩
  · obtain ⟨n, hrest⟩ := (AudioReaches.simples (s := { s.drawn with
      fifo := f, cells := cs, voices := vs, lastStolen := last
      work := { s.work with todo := [.w1 (.voice v .vel) x, .w2 (.voice v .vel), .envOn v] } })
      (ops := [.w1 (.voice v .vel) x, .w2 (.voice v .vel), .envOn v]) (rest := []) hb (by simp [AudioOp.simple]) rfl).run
    exact ⟨1 + n, _, (AudioRuns.step hstep).trans rfl hrest, rfl, hf, rfl, rfl, rfl⟩

/-- AUDIO alone, from the start of DRAIN to its end. -/
theorem AudioRuns.drain {s : State} (hb : s.seq.busy = true) (hphase : s.seq.phase = .drain) (htodo : s.work.todo = []) :
    ∃ n t, AudioRuns n s t ∧ t.work.todo = [] ∧ t.seq = { s.seq with phase := .sample } ∧ t.fifo.count = 0 ∧
      t.work.latch = [] ∧ t.sent = s.sent ∧ t.mem = s.mem := by
  induction hc : s.fifo.count generalizing s with
  | zero => exact ⟨1, _, .step (State.audioStep_of_empty hb hphase htodo hc), htodo, rfl, hc, rfl, rfl, rfl⟩
  | succ c ih =>
    obtain ⟨n, t, hrun, htodo', hcount, hseq, hsent, hmem⟩ := AudioRuns.packet hb hphase htodo (by omega)
    obtain ⟨n', u, hrun', hutodo, huseq, hucount, hulatch, husent, humem⟩ :=
      ih (s := t) (by rw [hseq]; exact hb) (by rw [hseq]; exact hphase) htodo' (by omega)
    exact ⟨n + n', u, hrun.trans (congrArg Seq.phase hseq) hrun', hutodo, hseq ▸ huseq, hucount, hulatch,
      husent.trans hsent, humem.trans hmem⟩

/-! ### The ends of FRAMES and GAIN (49_polyphony.md R340) -/

theorem State.nextUnits_of_frames_end (s : State) (hphase : s.seq.phase = .frames) (hf : ¬s.seq.frame < s.cfg.frames) :
    s.nextUnits = { s with seq := { s.seq with phase := .gain, frame := 0 } } := by
  simp only [State.nextUnits, hphase, if_neg hf]

theorem State.nextUnits_of_gain_end (s : State) (hphase : s.seq.phase = .gain) (hf : ¬s.seq.frame < s.cfg.frames) :
    s.nextUnits = s.finishFill := by
  simp only [State.nextUnits, hphase, if_neg hf]

/-! ### Units come to an end -/

/-- How many steps a unit can take at most, with the units it puts before the rest. -/
def AudioOp.weight (c : Cfg) (op : AudioOp) : Nat :=
  match op with
  | .clear i => 2 + (c.bufWords - i)
  | .conv i => 1 + 2 * (sampleTargets c i).length
  | .voice _ => 23
  | .e1 _ => 3
  | .e2 _ => 2
  | .w1 _ _ | .w2 _ | .envOn _ | .load _ | .enter _ | .e3 _ _ | .mixStart | .envSus _ | .envTime _ _ => 1
  | .envFsm _ | .ladder _ | .out _ | .mix | .mixStore _ | .gainLoad _ | .gainStore _ | .frameNext => 1

def todoWeight (c : Cfg) (ops : List AudioOp) : Nat := (ops.map (AudioOp.weight c)).sum

@[simp] theorem todoWeight_nil (c : Cfg) : todoWeight c [] = 0 := rfl

@[simp] theorem todoWeight_cons (c : Cfg) (op : AudioOp) (ops : List AudioOp) :
    todoWeight c (op :: ops) = op.weight c + todoWeight c ops := List.sum_cons

@[simp] theorem todoWeight_append (c : Cfg) (ops ops' : List AudioOp) :
    todoWeight c (ops ++ ops') = todoWeight c ops + todoWeight c ops' := by
  simp [todoWeight]

/-- What a unit, with all it puts before the rest, does to the sequencer. -/
def AudioOp.seqAfter (q : Seq) (op : AudioOp) : Seq :=
  match op with
  | .clear _ => { q with phase := .drain }
  | .enter p => { q with phase := p }
  | .frameNext => { q with frame := q.frame + 1 }
  | .w1 _ _ | .w2 _ | .envOn _ | .load _ | .conv _ | .e1 _ | .e2 _ | .e3 _ _ | .mixStart | .voice _ | .envSus _ => q
  | .envTime _ _ | .envFsm _ | .ladder _ | .out _ | .mix | .mixStore _ | .gainLoad _ | .gainStore _ => q

/-- The sequencer once the units `ops` are done. -/
def seqAfterAll (q : Seq) (ops : List AudioOp) : Seq := ops.foldl AudioOp.seqAfter q

theorem seqAfterAll_append (q : Seq) (ops ops' : List AudioOp) :
    seqAfterAll q (ops ++ ops') = seqAfterAll (seqAfterAll q ops) ops' := List.foldl_append

theorem seqAfterAll_of_still (q : Seq) (ops : List AudioOp) (h : ∀ op ∈ ops, ∀ p, AudioOp.seqAfter p op = p) :
    seqAfterAll q ops = q := by
  induction ops generalizing q with
  | nil => rfl
  | cons op ops ih =>
    rw [seqAfterAll, List.foldl_cons, h op List.mem_cons_self]
    exact ih q fun o ho => h o (List.mem_cons_of_mem op ho)

theorem busy_seqAfterAll (q : Seq) (ops : List AudioOp) :
    (seqAfterAll q ops).busy = q.busy ∧ (seqAfterAll q ops).buf = q.buf := by
  induction ops generalizing q with
  | nil => exact ⟨rfl, rfl⟩
  | cons op ops ih =>
    obtain ⟨hbusy, hbuf⟩ := ih (op.seqAfter q)
    refine ⟨hbusy.trans ?_, hbuf.trans ?_⟩ <;> cases op <;> rfl

theorem todoWeight_setTargetOps (c : Cfg) (x : Word) (ids : List SmId) :
    todoWeight c (setTargetOps x ids) = 2 * ids.length := by
  induction ids with
  | nil => rfl
  | cons id ids ih =>
    have hcons : setTargetOps x (id :: ids) = .w1 id x :: .w2 id :: setTargetOps x ids := rfl
    rw [hcons, todoWeight_cons, todoWeight_cons, ih, List.length_cons]
    simp only [AudioOp.weight]
    omega

theorem seqAfter_setTargetOps (q : Seq) (x : Word) (ids : List SmId) : seqAfterAll q (setTargetOps x ids) = q := by
  refine seqAfterAll_of_still q _ fun op hop p => ?_
  simp only [setTargetOps, List.mem_flatMap, List.mem_cons, List.not_mem_nil, or_false] at hop
  obtain ⟨id, -, rfl | rfl⟩ := hop <;> rfl

theorem todoWeight_renderOps (c : Cfg) (v : Nat) : todoWeight c (renderOps v) = 22 := by
  simp [renderOps, AudioOp.weight]

theorem seqAfter_renderOps (q : Seq) (v : Nat) : seqAfterAll q (renderOps v) = q := rfl

/-- A unit, taken off the list, puts lighter ones before the rest, and with them does to the sequencer what it does. -/
def UnitProgress (s t : State) (op : AudioOp) : Prop :=
  ∃ ops, t.work.todo = ops ++ s.work.todo ∧ todoWeight s.cfg ops < op.weight s.cfg ∧
    seqAfterAll t.seq ops = op.seqAfter s.seq ∧ t.fifo = s.fifo

theorem UnitProgress.of_none {s t : State} {op : AudioOp} (htodo : t.work.todo = s.work.todo) (hw : 0 < op.weight s.cfg)
    (hseq : t.seq = op.seqAfter s.seq) (hfifo : t.fifo = s.fifo) : UnitProgress s t op :=
  ⟨[], htodo, hw, hseq, hfifo⟩

theorem UnitProgress.setSm (s : State) (id : SmId) (m : Smoother) {op : AudioOp} (hw : 0 < op.weight s.cfg)
    (hseq : op.seqAfter s.seq = s.seq) : UnitProgress s (s.setSm id m) op :=
  .of_none (congrArg Work.todo (s.setSm_work id m)) hw ((s.setSm_seq id m).trans hseq.symm) (s.setSm_fifo id m)

theorem State.runOp_progress (s : State) (op : AudioOp) : UnitProgress s (s.runOp op) op := by
  cases op with
  | clear i =>
    simp only [State.runOp]
    split
    · refine ⟨[.clear (i + 1)], by simp, ?_, rfl, rfl⟩
      simp only [todoWeight_cons, todoWeight_nil, AudioOp.weight]
      omega
    · refine ⟨[.enter .drain], by simp, ?_, rfl, rfl⟩
      simp only [todoWeight_cons, todoWeight_nil, AudioOp.weight]
      omega
  | conv i =>
    simp only [State.runOp, State.convertCell]
    split
    · exact .of_none rfl (Nat.lt_add_right _ Nat.one_pos) rfl rfl
    · refine ⟨_, rfl, ?_, seqAfter_setTargetOps _ _ _, rfl⟩
      rw [todoWeight_setTargetOps, AudioOp.weight]
      omega
  | voice v =>
    rw [State.runOp]
    obtain h | ⟨x, w, h⟩ := s.startVoice_eq v
    · rw [h]
      exact .of_none rfl (Nat.succ_pos _) rfl rfl
    · rw [h]
      refine ⟨renderOps v, rfl, ?_, seqAfter_renderOps s.seq v, rfl⟩
      rw [todoWeight_renderOps]
      exact Nat.lt_succ_self 22
  | e1 id =>
    simp only [State.runOp]
    split
    · exact ⟨[.e2 id], rfl, Nat.lt_succ_self 2, rfl, rfl⟩
    · exact .setSm s id _ (Nat.succ_pos _) rfl
  | e2 id => exact ⟨[.e3 id (s.sm id).pending], rfl, Nat.lt_succ_self 1, rfl, rfl⟩
  | load i =>
    obtain ⟨k, d, -, hload⟩ := s.loadCell_eq i
    rw [State.runOp, hload]
    exact .of_none rfl Nat.one_pos rfl rfl
  | w1 id x => exact .setSm s id ((s.sm id).storePending x) Nat.one_pos rfl
  | w2 id => exact .setSm s id (s.sm id).storeFlag Nat.one_pos rfl
  | e3 id x => exact .setSm s id ((s.sm id).take x).advance Nat.one_pos rfl
  | ladder v =>
    obtain ⟨x, w, h⟩ := s.runOp_ladder_eq v
    rw [h]
    exact .of_none rfl Nat.one_pos rfl rfl
  | mixStore | gainStore => exact .of_none (s.storeOut_todo _ _ _) Nat.one_pos rfl rfl
  | _ => exact .of_none rfl Nat.one_pos rfl rfl

/-- AUDIO alone does the units of its list. -/
theorem audioRun_todo {s : State} (hb : s.seq.busy = true) : ∃ n t, audioRun n s = .next t ∧ t.work.todo = [] ∧
    t.seq = seqAfterAll s.seq s.work.todo ∧ t.fifo = s.fifo ∧ t.cfg = s.cfg := by
  induction hk : todoWeight s.cfg s.work.todo using Nat.strong_induction_on generalizing s with
  | _ k ih =>
    cases htodo : s.work.todo with
    | nil => exact ⟨0, s, rfl, htodo, rfl, rfl, rfl⟩
    | cons op rest =>
      have hstep := s.audioStep_of_todo op rest hb htodo
      generalize ht : (s.drawn.withTodo rest).runOp op = t at hstep
      have hcfg : t.cfg = s.cfg := congrArg (·.1) (s.outsideAudio_audioStep t hstep)
      obtain ⟨ops, htodo', hweight, hseq, hfifo⟩ := (s.drawn.withTodo rest).runOp_progress op
      rw [ht] at htodo' hseq hfifo
      have hbusy : t.seq.busy = true := by
        rw [← (busy_seqAfterAll t.seq ops).1, hseq]
        exact (busy_seqAfterAll s.seq [op]).1.trans hb
      have hlighter : todoWeight t.cfg t.work.todo < k := by
        rw [← hk, htodo, htodo', hcfg]
        simp only [todoWeight_append, todoWeight_cons]
        exact Nat.add_lt_add_right hweight _
      obtain ⟨n, u, hrun, hutodo, huseq, hufifo, hucfg⟩ := ih _ hlighter hbusy rfl
      refine ⟨1 + n, u, (audioRun_add 1 n s t (AudioRuns.step hstep).1).trans hrun, hutodo, ?_, hufifo.trans hfifo,
        hucfg.trans hcfg⟩
      rw [huseq, htodo', seqAfterAll_append, hseq]
      rfl

/-! ### Every fill ends (49_polyphony.md R340) -/

/-- AUDIO alone ends the fill. -/
def FillEnds (s : State) : Prop := ∃ n t, audioRun n s = .next t ∧
  t.seq = { busy := false, buf := s.seq.buf, phase := .clear, frame := 0, lastBuf := s.seq.buf }

theorem FillEnds.of_run {n : Nat} {s t : State} (hrun : audioRun n s = .next t) (hbuf : t.seq.buf = s.seq.buf)
    (ht : FillEnds t) : FillEnds s := by
  obtain ⟨m, u, hrun', hu⟩ := ht
  exact ⟨n + m, u, (audioRun_add n m s t hrun).trans hrun', hbuf ▸ hu⟩

/-- A phase or frame is its units, and then what follows. -/
theorem FillEnds.of_ops {s : State} {ops : List AudioOp} (hb : s.seq.busy = true) (htodo : s.work.todo = [])
    (hphase : s.seq.phase ≠ .drain) (hops : s.nextUnits = s.withTodo ops)
    (hthen : ∀ t : State, t.seq = seqAfterAll s.seq ops → t.work.todo = [] → t.cfg = s.cfg → FillEnds t) : FillEnds s := by
  obtain ⟨n, hstart, -⟩ := (AudioReaches.next hb htodo hphase).run
  rw [hops] at hstart
  refine .of_run hstart rfl ?_
  obtain ⟨m, t, hrun, htodo', hseq, -, hcfg⟩ := audioRun_todo (s := { s.withTodo ops with
    port := { s.port with draws := s.port.draws + n } }) hb
  exact .of_run hrun (by rw [hseq]; exact (busy_seqAfterAll s.seq ops).2) (hthen t hseq htodo' hcfg)

theorem fillEnds_of_gain {s : State} (hb : s.seq.busy = true) (hphase : s.seq.phase = .gain) (htodo : s.work.todo = []) :
    FillEnds s := by
  have hpolls : s.seq.phase ≠ .drain := by rw [hphase]; exact nofun
  induction hk : s.cfg.frames - s.seq.frame generalizing s with
  | zero =>
    obtain ⟨n, hrun, -⟩ := (AudioReaches.next hb htodo hpolls).run
    rw [s.nextUnits_of_gain_end hphase (by omega)] at hrun
    exact ⟨n, _, hrun, rfl⟩
  | succ k ih =>
    refine .of_ops hb htodo hpolls (s.nextUnits_of_gain_frame hphase htodo (by omega)) fun t hseq htodo' hcfg => ?_
    have hframe : seqAfterAll s.seq (gainOps s.seq.frame) = { s.seq with frame := s.seq.frame + 1 } := rfl
    rw [hframe] at hseq
    exact ih (by rw [hseq]; exact hb) (by rw [hseq]; exact hphase) htodo' (by rw [hseq]; exact hpolls)
      (by rw [hcfg, hseq]; simp only; omega)

theorem seqAfterAll_frameOps (q : Seq) (c : Cfg) (f : Nat) :
    seqAfterAll q (frameOps c f) = { q with frame := q.frame + 1 } := by
  have hvoices : ∀ p, seqAfterAll p ((List.range c.nvoices).map .voice) = p := fun p =>
    seqAfterAll_of_still p _ fun op hop p' => by
      obtain ⟨v, -, rfl⟩ := List.mem_map.mp hop
      rfl
  rw [frameOps, seqAfterAll_append, seqAfterAll_append, hvoices]
  rfl

theorem fillEnds_of_frames {s : State} (hb : s.seq.busy = true) (hphase : s.seq.phase = .frames) (htodo : s.work.todo = []) :
    FillEnds s := by
  have hpolls : s.seq.phase ≠ .drain := by rw [hphase]; exact nofun
  induction hk : s.cfg.frames - s.seq.frame generalizing s with
  | zero =>
    obtain ⟨n, hrun, -⟩ := (AudioReaches.next hb htodo hpolls).run
    rw [s.nextUnits_of_frames_end hphase (by omega)] at hrun
    exact .of_run hrun rfl (fillEnds_of_gain hb rfl htodo)
  | succ k ih =>
    refine .of_ops hb htodo hpolls (s.nextUnits_of_frame hphase htodo (by omega)) fun t hseq htodo' hcfg => ?_
    rw [seqAfterAll_frameOps] at hseq
    exact ih (by rw [hseq]; exact hb) (by rw [hseq]; exact hphase) htodo' (by rw [hseq]; exact hpolls)
      (by rw [hcfg, hseq]; simp only; omega)

theorem State.nextUnits_of_clear (s : State) (hphase : s.seq.phase = .clear) (htodo : s.work.todo = []) :
    s.nextUnits = s.withTodo [.clear 0] := by
  simp only [State.nextUnits, hphase, State.doFirst, htodo, List.append_nil]
  rfl

theorem fillEnds_of_sample {s : State} (hb : s.seq.busy = true) (hphase : s.seq.phase = .sample) (htodo : s.work.todo = []) :
    FillEnds s :=
  .of_ops hb htodo (by rw [hphase]; exact nofun) (s.nextUnits_of_sample hphase htodo) fun t hseq htodo' _ =>
    fillEnds_of_frames (by rw [hseq]; exact hb) (by rw [hseq]; rfl) htodo'

theorem fillEnds_of_drain {s : State} (hb : s.seq.busy = true) (hphase : s.seq.phase = .drain) (htodo : s.work.todo = []) :
    FillEnds s := by
  obtain ⟨n, t, ⟨hrun, -⟩, htodo', hseq, -⟩ := AudioRuns.drain hb hphase htodo
  exact .of_run hrun (by rw [hseq]) (fillEnds_of_sample (by rw [hseq]; exact hb) (by rw [hseq]) htodo')

theorem fillEnds_of_clear {s : State} (hb : s.seq.busy = true) (hphase : s.seq.phase = .clear) (htodo : s.work.todo = []) :
    FillEnds s :=
  .of_ops hb htodo (by rw [hphase]; exact nofun) (s.nextUnits_of_clear hphase htodo) fun t hseq htodo' _ =>
    fillEnds_of_drain (by rw [hseq]; exact hb) (by rw [hseq]; rfl) htodo'

theorem fillEnds_of_busy {s : State} (hb : s.seq.busy = true) : FillEnds s := by
  obtain ⟨n, t, hrun, htodo, hseq, -⟩ := audioRun_todo hb
  obtain ⟨hbusy, hbuf⟩ := busy_seqAfterAll s.seq s.work.todo
  have hb' : t.seq.busy = true := by rw [hseq, hbusy, hb]
  refine .of_run hrun (by rw [hseq, hbuf]) ?_
  cases hphase : t.seq.phase with
  | clear => exact fillEnds_of_clear hb' hphase htodo
  | drain => exact fillEnds_of_drain hb' hphase htodo
  | sample => exact fillEnds_of_sample hb' hphase htodo
  | frames => exact fillEnds_of_frames hb' hphase htodo
  | gain => exact fillEnds_of_gain hb' hphase htodo

/-! ### The obligation -/

/-- A run inside a phase, as the obligation states it: what AUDIO has no unit for stays. -/
theorem AudioRuns.ends {n : Nat} {s t : State} {p : State → Prop} (h : AudioRuns n s t) (htodo : t.work.todo = [])
    (hp : p t) : ∃ (n : Nat) (t : State), audioRun n s = .next t ∧ t.work.todo = [] ∧
      (∀ m, m < n → ∃ u : State, audioRun m s = .next u ∧ u.seq.phase = s.seq.phase) ∧
      t = { s with
        seq := t.seq, work := t.work, fifo := t.fifo, cells := t.cells, sent := t.sent, mix := t.mix, voices := t.voices
        lastStolen := t.lastStolen, mem := t.mem, port := { s.port with draws := t.port.draws } } ∧ p t := by
  obtain ⟨hrun, hbefore⟩ := h
  exact ⟨n, t, hrun, htodo, hbefore, State.eq_of_outsideAudio (outsideAudio_audioRun n s t hrun), hp⟩

/-- Settles O58: each phase is a run of its own, and a fill ends because every unit puts only lighter ones before the rest. -/
theorem fillTerminates : Obligations.FillTerminates := by
  unfold Obligations.FillTerminates
  refine ⟨fun s hl hmem hb hcells => ⟨fun _ htodo => ?_, fun hphase htodo => ?_, fun hphase htodo hlatch => ?_,
    fun hphase htodo hf => ?_, fun hphase htodo hf => ?_⟩, fun s hmem hb hphase htodo hf => ?_, fun s _ hb => fillEnds_of_busy hb⟩
  · obtain ⟨m, past, hclear, hmemory⟩ := AudioReaches.clear hb htodo
    obtain ⟨n, hrun⟩ := hclear.run
    obtain ⟨hzero, hkept⟩ := hmemory hmem
    rw [Nat.max_eq_left (Cfg.bufWords_pos_of_legal hl)] at hkept
    exact hrun.ends rfl ⟨fun i hi => hzero i (Nat.zero_le i) hi, hkept, rfl⟩
  · obtain ⟨n, t, hrun, htodo', hdrained⟩ := AudioRuns.drain hb hphase htodo
    exact hrun.ends htodo' hdrained
  · obtain ⟨n, cs, ws, p, m, vs, d, hrun, hlen, ⟨hmix, hvoices⟩, hloaded⟩ := AudioRuns.sample hcells hb hphase htodo hlatch
    exact hrun.ends rfl ⟨rfl, hlen, hloaded, rfl, rfl, rfl, hmix, hvoices⟩
  · obtain ⟨n, hrun⟩ := (AudioReaches.next hb htodo (by rw [hphase]; exact nofun)).run
    rw [s.nextUnits_of_frames_end hphase (by omega)] at hrun
    exact hrun.ends htodo rfl
  · obtain ⟨n, hrun⟩ := (AudioReaches.next hb htodo (by rw [hphase]; exact nofun)).run
    rw [s.nextUnits_of_gain_end hphase (by omega)] at hrun
    exact hrun.ends htodo rfl
  · obtain ⟨k, hk, hframe⟩ := AudioReaches.gainFrame hmem hb hphase htodo hf rfl rfl
    obtain ⟨n, hrun, -⟩ := hframe.run
    obtain ⟨hleft, hright, hrest⟩ := State.storePair_spec hmem s.seq.buf s.seq.frame _ _
    refine ⟨n, _, hrun, hleft, hright, hrest, ?_⟩
    obtain ⟨todo, latch, acc, tmp, past⟩ := k
    cases hk
    rfl

end Sys2Proof.Machine
end

section
/-! Family 30_encoding: whatever a word decodes to is the reading of that word (30_encoding.md R110 to R120), and the checks a UOP
passes before its own effect (60_exceptions.md R364). -/

namespace Sys2Proof.Machine

/-- The command is the reading of the word: its operands fit their fields, and its word is that word. -/
def Reads (i : Instr) (w : Word) : Prop := i.wellFormed = true ∧ encode i = w

/-- A row of the opcode map reads the word, or leaves it to the catch-all (30_encoding.md R115). -/
def ReadsOrIllegal (i : Instr) (w : Word) : Prop := i = .illegalUop w ∨ Reads i w

/-! ### The fields of a word (30_encoding.md R110, R113) -/

theorem bits_byte_lt (w : Word) (lo : Nat) : bits w (lo + 7) lo < 256 := by
  simp only [bits, show lo + 7 + 1 - lo = 8 by omega]
  exact Nat.mod_lt _ (by decide)

/-- Format UOP: a word with `RSV = 0` is that of its `OP` and `UNIT`. -/
theorem uopWord_fields (w : Word) (h : bits w 15 0 = 0) : uopWord (bits w 31 24) (bits w 23 16) = w := by
  apply BitVec.eq_of_toNat_eq
  rw [Laws.RoundTrip.toNat_uopWord _ _ (bits_byte_lt w 24) (bits_byte_lt w 16)]
  have hw := w.isLt
  simp only [bits] at h ⊢
  omega

/-- A word with `OP = 0x68` is that opcode before its bits 23:0 (47_filter.md R302). -/
theorem svfWord_fields (w : Word) (h : bits w 31 24 = 0x68) : (0x68#8 : BitVec 8) ++ BitVec.ofNat 24 (bits w 23 0) = w := by
  apply BitVec.eq_of_toNat_eq
  rw [BitVec.toNat_append, ← Nat.shiftLeft_add_eq_or_of_lt (BitVec.isLt _), Nat.shiftLeft_eq, BitVec.toNat_ofNat,
    BitVec.toNat_ofNat]
  have hw := w.isLt
  simp only [bits] at h ⊢
  omega

/-- Format EVT: every word is the packet of its four bytes. -/
theorem exists_evtWord (w : Word) : ∃ cmd d1 d2 rsv : Byte, evtWord cmd d1 d2 rsv = w := by
  refine ⟨BitVec.ofNat 8 (bits w 31 24), BitVec.ofNat 8 (bits w 23 16), BitVec.ofNat 8 (bits w 15 8),
    BitVec.ofNat 8 (bits w 7 0), BitVec.eq_of_toNat_eq ?_⟩
  have hw := w.isLt
  simp only [Laws.RoundTrip.toNat_evtWord, BitVec.toNat_ofNat, bits]
  omega

/-! ### Units (30_encoding.md R115) -/

theorem encodeKind_of_decodeKind {n : Nat} {k : Kind} (h : decodeKind n = some k) : encodeKind k = n := by
  unfold decodeKind at h
  split at h <;> cases h <;> rfl

theorem decodeOsc_eq_some {unit v : Nat} {k : Kind} (hu : unit < 256) (h : decodeOsc unit = some (v, k)) :
    oscFits v k = true ∧ encodeOsc v k = unit := by
  unfold decodeOsc at h
  split at h
  · rename_i hk
    have hk := encodeKind_of_decodeKind hk
    split at h <;> cases h
    exact ⟨rfl, by simp only [encodeOsc]; omega⟩
  · rename_i k' hsine hk
    have hk := encodeKind_of_decodeKind hk
    cases h
    refine ⟨?_, by simp only [encodeOsc]; omega⟩
    simp only [oscFits, Bool.and_eq_true, Nat.blt_eq, Bool.or_eq_true, bne_iff_ne]
    exact ⟨by omega, .inl fun hk' => hsine (by rw [hk'])⟩
  · cases h

theorem decodeSm_eq_some {unit : Nat} {id : SmId} (hu : unit < 256) (h : decodeSm unit = some id) :
    id.fits = true ∧ encodeSm id = unit := by
  unfold decodeSm at h
  split at h
  · split at h <;> cases h <;> exact ⟨rfl, rfl⟩
  · split at h <;> cases h <;> exact ⟨by simp only [SmId.fits, Nat.blt_eq]; omega, by simp only [encodeSm]; omega⟩

/-! ### UOP words -/

section
variable {w : Word} {op unit : Nat}

theorem pureUop_readsOrIllegal {i : Instr} (hw : uopWord op unit = w) (hi : Reads i (uopWord op 0)) :
    ReadsOrIllegal (pureUop w unit i) w := by
  unfold pureUop
  split
  case isTrue h0 =>
    subst h0 hw
    exact .inr hi
  case isFalse => exact .inl rfl

theorem oscUop_readsOrIllegal {f : Nat → Kind → Instr} (hw : uopWord op unit = w) (hu : unit < 256)
    (hf : ∀ v k, oscFits v k = true → Reads (f v k) (uopWord op (encodeOsc v k))) :
    ReadsOrIllegal (oscUop w unit f) w := by
  unfold oscUop
  split
  · rename_i v k hd
    obtain ⟨hfits, rfl⟩ := decodeOsc_eq_some hu hd
    exact .inr (hw ▸ hf v k hfits)
  · exact .inl rfl

theorem smUop_readsOrIllegal {f : SmId → Instr} (hw : uopWord op unit = w) (hu : unit < 256)
    (hf : ∀ id, id.fits = true → Reads (f id) (uopWord op (encodeSm id))) :
    ReadsOrIllegal (smUop w unit f) w := by
  unfold smUop
  split
  · rename_i id hd
    obtain ⟨hfits, rfl⟩ := decodeSm_eq_some hu hd
    exact .inr (hw ▸ hf id hfits)
  · exact .inl rfl

theorem paramUop_readsOrIllegal {f : Fin 12 → Instr} (hw : uopWord op unit = w) (hf : ∀ i, Reads (f i) (uopWord op i.val)) :
    ReadsOrIllegal (paramUop w unit f) w := by
  unfold paramUop
  split
  · exact .inr (hw ▸ hf _)
  · exact .inl rfl

/-- OSC_NEXT (30_encoding.md R116): the kind's own row fits where the oscillator does. -/
theorem reads_oscNextUop (v : Nat) (k : Kind) (h : oscFits v k = true) :
    Reads (oscNextUop v k) (uopWord 0x22 (encodeOsc v k)) := by
  simp only [oscFits, Bool.and_eq_true, Bool.or_eq_true, beq_iff_eq] at h
  obtain ⟨hv, hsine⟩ := h
  cases k with
  | sine =>
    obtain rfl : v = 0 := by simpa using hsine
    exact ⟨rfl, rfl⟩
  | _ => exact ⟨hv, rfl⟩

/-- PULSE_SETW: the kind in the unit is PULSE. -/
theorem pulseSetw_row_readsOrIllegal (hw : uopWord 0x23 unit = w) (hu : unit < 256) :
    ReadsOrIllegal (if unit % 8 = 1 then .pulseSetw (unit / 8) else .illegalUop w) w := by
  split
  · have hunit : encodeOsc (unit / 8) .pulse = unit := by simp only [encodeOsc, encodeKind]; omega
    exact .inr ⟨by simp only [Instr.wellFormed, Nat.blt_eq]; omega, by simp only [encode, hunit, hw]⟩
  · exact .inl rfl

/-- Every row of the opcode map of 30_encoding.md R116 reads the word or leaves it to the catch-all, class by class of its unit
(R115). -/
theorem decodeOp_readsOrIllegal (hw : uopWord op unit = w) (hu : unit < 256) :
    ReadsOrIllegal (decodeOp w op unit) w := by
  have hv : voiceFits unit = true := by simpa [voiceFits] using hu
  unfold decodeOp
  split
  case h_15 => exact oscUop_readsOrIllegal hw hu reads_oscNextUop
  case h_16 => exact pulseSetw_row_readsOrIllegal hw hu
  any_goals exact pureUop_readsOrIllegal hw ⟨rfl, rfl⟩
  any_goals exact oscUop_readsOrIllegal hw hu fun _ _ hfits => ⟨hfits, rfl⟩
  any_goals exact smUop_readsOrIllegal hw hu fun _ hfits => ⟨hfits, rfl⟩
  any_goals exact paramUop_readsOrIllegal hw fun _ => ⟨rfl, rfl⟩
  any_goals exact .inl rfl
  all_goals exact .inr ⟨hv, hw⟩

/-- A UOP word that is not left to the catch-all is read by its row. -/
theorem decodeUop_readsOrIllegal (w : Word) : ReadsOrIllegal (decodeUop w) w := by
  unfold decodeUop
  split_ifs with hsvf hrsv
  · exact .inr ⟨rfl, svfWord_fields w hsvf⟩
  · exact decodeOp_readsOrIllegal (uopWord_fields w hrsv) (bits_byte_lt w 16)
  · exact .inl rfl

theorem reads_decodeUop (w : Word) : Reads (decodeUop w) w := by
  obtain h | h := decodeUop_readsOrIllegal w
  · rw [h]
    exact ⟨by simpa [Instr.wellFormed] using h, rfl⟩
  · exact h

end

/-! ### Packets and port words (30_encoding.md R111, R119) -/

theorem reads_decodeEvt (w : Word) : Reads (decodeEvt w) w := by
  obtain ⟨cmd, d1, d2, rsv, rfl⟩ := exists_evtWord w
  rw [Laws.RoundTrip.decodeEvt_evtWord]
  split_ifs with hon hon0 hoff hall hcc
  · obtain ⟨hcmd, hd2⟩ := hon
    obtain rfl : cmd = 0x90 := BitVec.eq_of_toNat_eq hcmd
    exact ⟨by simpa [Instr.wellFormed, ← BitVec.toNat_inj] using hd2, rfl⟩
  · obtain rfl : cmd = 0x90 := BitVec.eq_of_toNat_eq hon0
    obtain rfl : d2 = 0 := BitVec.eq_of_toNat_eq (by simpa using hon)
    exact ⟨rfl, rfl⟩
  · obtain rfl : cmd = 0x80 := BitVec.eq_of_toNat_eq hoff
    exact ⟨rfl, rfl⟩
  · obtain ⟨hcmd, hd1⟩ := hall
    obtain rfl : cmd = 0xB0 := BitVec.eq_of_toNat_eq hcmd
    obtain rfl : d1 = 123 := BitVec.eq_of_toNat_eq hd1
    exact ⟨rfl, rfl⟩
  · obtain rfl : cmd = 0xB0 := BitVec.eq_of_toNat_eq hcc
    exact ⟨by simpa [Instr.wellFormed, ← BitVec.toNat_inj] using hall, rfl⟩
  · exact ⟨by simp [Instr.wellFormed, ← BitVec.toNat_inj, hon0, hoff, hcc], rfl⟩

theorem reads_of_decode (f : Form) (w : Word) (i : Instr) (h : decode f w = .ok i) : Reads i w := by
  cases f with
  | uop => cases h; exact reads_decodeUop w
  | evt => cases h; exact reads_decodeEvt w
  | push | cmd => cases h; exact ⟨rfl, rfl⟩
  | ctrl =>
    simp only [decode] at h
    split_ifs at h with hone
    cases h
    exact ⟨rfl, hone.symm⟩
  | fill =>
    simp only [decode] at h
    split_ifs at h with hzero hone <;> cases h
    · exact ⟨rfl, hzero.symm⟩
    · exact ⟨rfl, hone.symm⟩

/-- Settles O51: row by row from the command to the word, and back by the fields of the word. -/
theorem decodeEncode : Obligations.DecodeEncode := by
  unfold Obligations.DecodeEncode
  refine ⟨Laws.RoundTrip.decode_encode, fun f w i h => ?_⟩
  obtain ⟨hwf, hword⟩ := reads_of_decode f w i h
  exact ⟨hwf, formOf_decode f w i h, hword⟩

/-- Settles O50: each word computes. -/
theorem decodedWords : Obligations.DecodedWords := by
  unfold Obligations.DecodedWords
  decide

/-! ### The checks of a UOP (60_exceptions.md R364) -/

/-- What `State.uop` records is `word[31:8]` of the UOP's word (60_exceptions.md R362). -/
theorem wordTop_uopWord (op unit : Nat) : wordTop (uopWord op unit) = uopInfo op unit := by
  have hshift : (op * 2 ^ 24 + unit * 2 ^ 16) % 2 ^ 32 / 2 ^ 8 = (op * 2 ^ 16 + unit * 2 ^ 8) % 2 ^ 24 := by omega
  apply BitVec.eq_of_toNat_eq
  rw [wordTop, uopWord, uopInfo, BitVec.extractLsb'_toNat, BitVec.toNat_ofNat, BitVec.toNat_ofNat,
    Nat.shiftRight_eq_div_pow, hshift, Nat.mod_mod]

theorem oscAdmitted_of_fits (c : Cfg) {v : Nat} {k : Kind} (h : oscFits v k = true) :
    oscAdmitted c v k = (k == .sine || Nat.blt v c.nvoices) := by
  cases k with
  | sine =>
    obtain ⟨-, rfl⟩ : v < 32 ∧ v = 0 := by simpa [oscFits] using h
    rfl
  | _ => rfl

/-- The UOP passes the checks of `State.uop` before its own effect `t`: the unit its word names, then its "Excl." column. -/
def ChecksFirst (i : Instr) (s : State) : Prop :=
  ∃ (op unit : Nat) (t : State), encode i = uopWord op unit ∧ exec i s = .next
    (if !unitAdmitted s.cfg i then s.raise .illegal (uopInfo op unit)
     else if audioExclusive i && s.seq.busy then s.raise .busy (uopInfo op unit)
     else t)

/-- A UOP passes the checks, or could fail none: its unit is always admitted and it may run during a fill. -/
theorem checksFirst_or_unchecked (s : State) (i : Instr) (hi : formOf i = .uop) (hwf : i.wellFormed = true) :
    ChecksFirst i s ∨ unitAdmitted s.cfg i = true ∧ audioExclusive i = false := by
  cases i with
  | oscReset v k | oscSetinc v k | oscRead v k | oscSetfreq v k =>
    left
    simp only [ChecksFirst, unitAdmitted, ← oscAdmitted_of_fits s.cfg hwf]
    exact ⟨_, _, _, rfl, rfl⟩
  | smReset id | smSetvalue id | smSettarget id | smNext id | smRead id =>
    cases id <;> exact .inl ⟨_, _, _, rfl, rfl⟩
  | sawNext | pulseNext | subNext | noiseNext | sineNext | pulseSetw | envNoteOn | envNoteOff | envTick | envRead | envLevel
  | ladderStep | ladderRead | voiceNoteOn | voiceNoteOff | voiceRender | voiceRead | vmSelect =>
    exact .inl ⟨_, _, _, rfl, rfl⟩
  | evtNoteOn | evtNoteOnV0 | evtNoteOff | evtAllNotesOff | evtCcIgnored | evtOtherIgnored | reset | fill | evtPush
  | uopIssue => simp only [formOf, reduceCtorEq] at hi
  | _ => exact .inr ⟨rfl, rfl⟩

/-- Settles O43: the checks come in their order, each with the word's own bits; a UOP without them can fail none. -/
theorem uopChecks : Obligations.UopChecks := by
  unfold Obligations.UopChecks
  intro s i hi hwf
  obtain ⟨op, unit, t, hword, hexec⟩ | ⟨hadmitted, hshared⟩ := checksFirst_or_unchecked s i hi hwf
  · rw [hexec, hword, wordTop_uopWord]
    exact ⟨fun hno => by simp [hno], fun hyes hexclusive hbusy => by simp [hyes, hexclusive, hbusy]⟩
  · simp [hadmitted, hshared]

end Sys2Proof.Machine
end

section
/-! Family 41_fixpoint: the arithmetic UOPs on the 64-bit datapath, and the laws of the unit. -/

namespace Sys2Proof.Machine

/-! ### The datapath (41_fixpoint.md R142 to R150) -/

theorem wrap32_s32 (a : Word) : wrap32 (s32 a) = a := BitVec.ofInt_toInt

/-- Keeping the low 32 bits of a 64-bit result wraps its signed value. -/
theorem wrap32_toInt_eq_setWidth (x : BitVec 64) : wrap32 x.toInt = x.setWidth 32 :=
  BitVec.signExtend_eq_setWidth_of_le x (by decide)

theorem wrap32_bmod (n : Int) : wrap32 (n.bmod (2 ^ 64)) = wrap32 n := by
  apply BitVec.eq_of_toInt_eq
  rw [BitVec.toInt_ofInt, BitVec.toInt_ofInt]
  exact Int.bmod_bmod_of_dvd (Nat.pow_dvd_pow 2 (by decide : 32 ≤ 64))

theorem fsub_eq_sub (a b : Word) : fsub a b = a - b := by
  simp [fsub, Int.sub_eq_add_neg, BitVec.ofInt_add, BitVec.ofInt_neg, BitVec.sub_eq_add_neg]

theorem ffromint_eq_shiftLeft (i : Word) : ffromint i = i <<< 15 := by
  simp only [ffromint, BitVec.ofInt_mul, BitVec.ofInt_toInt, BitVec.shiftLeft_eq_mul_twoPow]
  rfl

theorem toInt_signExtend_mul (a b : Word) : (a.signExtend 64 * b.signExtend 64).toInt = a.toInt * b.toInt := by
  rw [BitVec.toInt_mul, BitVec.toInt_signExtend_of_le (by decide), BitVec.toInt_signExtend_of_le (by decide)]
  have hle : a.toInt * b.toInt ≤ 2 ^ 62 := BitVec.toInt_mul_toInt_le
  have hlo : -2 ^ 62 ≤ a.toInt * b.toInt  := BitVec.le_toInt_mul_toInt
  exact Int.bmod_eq_of_le (by omega) (by omega)

theorem toInt_signExtend_shiftLeft (a : Word) : (a.signExtend 64 <<< 15).toInt = a.toInt * 2 ^ 15 := by
  have hlo := BitVec.le_toInt a
  have hhi := BitVec.toInt_lt (x := a)
  rw [BitVec.shiftLeft_eq_mul_twoPow, BitVec.toInt_mul, BitVec.toInt_signExtend_of_le (by decide)]
  exact Int.bmod_eq_of_le (by change _ ≤ a.toInt * 2 ^ 15; omega) (by change a.toInt * 2 ^ 15 < _; omega)

theorem fmul_eq_datapath (a b : Word) :
    fmul a b = ((a.signExtend 64 * b.signExtend 64).sshiftRight 15).setWidth 32 := by
  rw [← wrap32_toInt_eq_setWidth, BitVec.toInt_sshiftRight, toInt_signExtend_mul, Int.shiftRight_eq_div_pow]
  rfl

theorem fdiv_eq_datapath (a b : Word) :
    fdiv a b = ((a.signExtend 64 <<< 15).sdiv (b.signExtend 64)).setWidth 32 := by
  rw [← wrap32_toInt_eq_setWidth, BitVec.toInt_sdiv, wrap32_bmod, toInt_signExtend_shiftLeft,
    BitVec.toInt_signExtend_of_le (by decide)]
  rfl

/-- Settles O1: each rule's integer formula is the operation of the datapath. -/
theorem arithmeticUops : Obligations.ArithmeticUops := by
  unfold Obligations.ArithmeticUops
  intro s
  have hshift : s.regs.b.toNat % 32 = bits s.regs.b 4 0 := by
    simp [bits]
  simp only [hshift, ← fadd_eq_add, ← fsub_eq_sub, ← fmul_eq_datapath, ← fshra_eq_sshiftRight, ← ffromint_eq_shiftLeft]
  refine ⟨⟨?_, rfl⟩, ⟨?_, rfl⟩, ⟨?_, rfl⟩, ⟨?_, rfl⟩, ⟨?_, rfl⟩, ⟨?_, rfl⟩, ⟨?_, rfl⟩, ⟨?_, rfl⟩⟩
  all_goals decide

theorem execDiv_eq (s : State) : exec .div s =
    .next (if s32 s.regs.b = 0 then s.raise .divz (uopInfo 0x04 0) else s.setR (fdiv s.regs.a s.regs.b)) := rfl

/-- Settles O2: the low 32 bits do not see the datapath's wrap at 64, and a divisor is zero just when its signed reading is. -/
theorem divUop : Obligations.DivUop := by
  unfold Obligations.DivUop
  refine ⟨by decide, fun s => ⟨fun hzero => ?_, fun hne => ?_⟩⟩
  · rw [execDiv_eq, if_pos (by rw [hzero]; rfl)]
    rfl
  · rw [execDiv_eq, if_neg (by rwa [← BitVec.toInt_zero, BitVec.toInt_inj]), fdiv_eq_datapath]

/-! ### The laws (41_fixpoint.md R154) -/

theorem fmul_comm (a b : Word) : fmul a b = fmul b a := by
  rw [fmul, mul_comm, fmul]

theorem fmul_one (a : Word) : fmul a fxOne = a := by
  have hone : s32 fxOne = 2 ^ 15 := rfl
  rw [fmul, asr, hone, Int.mul_ediv_cancel _ (by decide), wrap32_s32]

theorem fmul_zero (a : Word) : fmul a 0 = 0 := by
  have hzero : s32 0 = 0 := rfl
  rw [fmul, hzero, mul_zero]
  rfl

theorem fdiv_one (a : Word) : fdiv a fxOne = a := by
  have hone : s32 fxOne = 2 ^ 15 := rfl
  rw [fdiv, tdiv, hone, Int.mul_tdiv_cancel _ (by decide), wrap32_s32]

/-- Every clamp is a word, so the signed reading of the result is the clamp itself. -/
theorem toInt_fclamp (x lo hi : Word) : (fclamp x lo hi).toInt = max lo.toInt (min hi.toInt x.toInt) := by
  have hlo : -2 ^ 31 ≤ lo.toInt := BitVec.le_toInt lo
  have hlo' : lo.toInt < 2 ^ 31 := BitVec.toInt_lt
  have hhi : hi.toInt < 2 ^ 31 := BitVec.toInt_lt
  exact s32_wrap32 _ (le_max_of_le_left hlo) (max_lt hlo' (min_lt_of_left_lt hhi))

/-- Settles O5: the group is that of words; MUL and DIV by ONE undo the shift; CLAMP is the clamp of the integers. -/
theorem arithmeticLaws : Obligations.ArithmeticLaws := by
  unfold Obligations.ArithmeticLaws
  intro a b c
  simp only [fadd_eq_add, fsub_eq_sub]
  refine ⟨BitVec.add_comm a b, BitVec.add_assoc a b c, BitVec.add_zero a, ?_, ?_, fmul_one a, fmul_zero a,
    fmul_comm a b, fdiv_one a, fun hle => ⟨?_, ?_, BitVec.eq_of_toInt_eq ?_, fun d had => ?_⟩⟩
  case refine_1 => simp
  case refine_2 => simp [BitVec.sub_eq_add_neg]
  all_goals simp only [toInt_fclamp]; omega

end Sys2Proof.Machine
end

section
/-! Family 41_fixpoint: rounding, to an integer (halves away from zero) and to binary32 (halves to even). -/

namespace Sys2Proof.Machine

/-! ### Nearest integer, halves away from zero (00_scope.md R10) -/

theorem rha_nonneg_spec (n d : Nat) (hd : 0 < d) :
    2 * |(n : Int) - rha n d * d| ≤ d ∧ (2 * |(n : Int) - rha n d * d| = d → (n : Int) < rha n d * d) := by
  have hdiv := Nat.div_add_mod (2 * n + d) (2 * d)
  have hmod := Nat.mod_lt (2 * n + d) (by omega : 0 < 2 * d)
  have hrha : rha n d = ((2 * n + d) / (2 * d) : Nat) := by simp [rha]
  have hmul : 2 * d * ((2 * n + d) / (2 * d)) = 2 * ((2 * n + d) / (2 * d) * d) := by ring
  rw [hrha, ← Nat.cast_mul]
  simp only [abs_eq_max_neg]
  omega

theorem rha_neg (n : Int) (d : Nat) (hd : 0 < d) : rha (-n) d = -rha n d := by
  have hzero : d / (2 * d) = 0 := Nat.div_eq_of_lt (by omega)
  obtain hn | rfl | hn := lt_trichotomy n 0
  · simp [rha, hn.le, hn.not_ge]
  · simp [rha, hzero]
  · simp [rha, hn.le, hn.not_ge]

/-- `rha(n / d)` is within half a unit of `n / d`, and half a unit off only on the far side from zero. -/
theorem rha_spec (n : Int) (d : Nat) (hd : 0 < d) :
    2 * |n - rha n d * d| ≤ d ∧ (2 * |n - rha n d * d| = d → |n| < |rha n d * d|) := by
  obtain ⟨m, rfl | rfl⟩ := n.eq_nat_or_neg
  · obtain ⟨hle, htie⟩ := rha_nonneg_spec m d hd
    exact ⟨hle, fun h => (abs_of_nonneg m.cast_nonneg).trans_lt ((htie h).trans_le (le_abs_self _))⟩
  · obtain ⟨hle, htie⟩ := rha_nonneg_spec m d hd
    have hflip : |-(m : Int) - rha (-m) d * d| = |(m : Int) - rha m d * d| := by
      rw [rha_neg _ _ hd, ← abs_neg]
      congr 1
      ring
    rw [hflip, rha_neg _ _ hd, neg_mul, abs_neg, abs_neg]
    exact ⟨hle, fun h => (abs_of_nonneg m.cast_nonneg).trans_lt ((htie h).trans_le (le_abs_self _))⟩

/-! ### Nearest integer, ties to even -/

/-- `rneDiv n d` is within half a unit of `n / d`, and even where half a unit off. -/
theorem rneDiv_spec (n : Nat) {d : Nat} (hd : 0 < d) :
    2 * (rneDiv n d * d) ≤ 2 * n + d ∧ 2 * n ≤ 2 * (rneDiv n d * d) + d ∧
      (2 * (rneDiv n d * d) = 2 * n + d ∨ 2 * n = 2 * (rneDiv n d * d) + d → rneDiv n d % 2 = 0) := by
  have hdiv := Nat.div_add_mod' n d
  have hmod := Nat.mod_lt n hd
  have hsucc : (n / d + 1) * d = n / d * d + d := by ring
  unfold rneDiv
  dsimp only
  split_ifs <;> omega

/-- No integer is nearer to `n / d`, and of two as near `rneDiv n d` is the even one. -/
theorem rneDiv_nearest (n j : Nat) {d : Nat} (hd : 0 < d) :
    |(rneDiv n d * d : Int) - n| ≤ |(j * d : Int) - n| ∧
      (|(rneDiv n d * d : Int) - n| = |(j * d : Int) - n| → j ≠ rneDiv n d → rneDiv n d % 2 = 0) := by
  obtain ⟨hle, hge, heven⟩ := rneDiv_spec n hd
  obtain rfl | hne := eq_or_ne j (rneDiv n d)
  · exact ⟨le_rfl, fun _ h => absurd rfl h⟩
  · have hstep : (d : Int) ≤ |(j * d : Int) - rneDiv n d * d| := by
      rw [← sub_mul, abs_mul, Nat.abs_cast]
      exact le_mul_of_one_le_left d.cast_nonneg (Int.one_le_abs (sub_ne_zero.mpr (by exact_mod_cast hne)))
    rw [← Nat.cast_mul, ← Nat.cast_mul] at hstep ⊢
    simp only [abs_eq_max_neg] at hstep ⊢
    omega

theorem le_rneDiv {n d j : Nat} (hd : 0 < d) (h : j * d ≤ n) : j ≤ rneDiv n d := by
  have hfloor : j ≤ n / d := (Nat.le_div_iff_mul_le hd).mpr h
  unfold rneDiv
  dsimp only
  split_ifs <;> omega

theorem rneDiv_le {n d j : Nat} (hd : 0 < d) (h : 2 * n < (2 * j + 1) * d) : rneDiv n d ≤ j := by
  by_contra hlt
  have hmul : (j + 1) * d ≤ rneDiv n d * d := Nat.mul_le_mul_right d (by omega)
  have hspec := (rneDiv_spec n hd).1
  have : (2 * j + 1) * d = 2 * (j * d) + d := by ring
  have : (j + 1) * d = j * d + d := by ring
  omega

/-- From half a unit below an even integer on, the nearest integer is that one or a larger one. -/
theorem lt_rneDiv_of_odd {n d j : Nat} (hodd : j % 2 = 1) (hd : 0 < d) (h : (2 * j + 1) * d ≤ 2 * n) : j < rneDiv n d := by
  by_contra hle
  have hmul : rneDiv n d * d ≤ j * d := Nat.mul_le_mul_right d (by omega)
  obtain ⟨-, hge, heven⟩ := rneDiv_spec n hd
  have : (2 * j + 1) * d = 2 * (j * d) + d := by ring
  have heq : rneDiv n d = j := Nat.eq_of_mul_eq_mul_right hd (by omega)
  have := heven (by omega)
  omega

/-! ### The values of the magnitude bits (00_scope.md R11) -/

/-- `fMag`, as a function of bits 30:0. -/
def magUnits (m : Nat) : Nat :=
  if m / 2 ^ 23 = 0 then m % 2 ^ 23 else (2 ^ 23 + m % 2 ^ 23) * 2 ^ (m / 2 ^ 23 - 1)

theorem fMag_eq_magUnits (x : Word) : fMag x = magUnits (fAbsBits x) := rfl

theorem magUnits_subnormal {f : Nat} (hf : f < 2 ^ 23) : magUnits f = f := by
  have hexp : f / 2 ^ 23 = 0 := Nat.div_eq_of_lt hf
  rw [magUnits, if_pos hexp, Nat.mod_eq_of_lt hf]

theorem magUnits_normal (e : Nat) {f : Nat} (hf : f < 2 ^ 23) :
    magUnits ((e + 1) * 2 ^ 23 + f) = (2 ^ 23 + f) * 2 ^ e := by
  have hexp : ((e + 1) * 2 ^ 23 + f) / 2 ^ 23 = e + 1 := by omega
  have hfrac : ((e + 1) * 2 ^ 23 + f) % 2 ^ 23 = f := by omega
  rw [magUnits, hexp, hfrac, if_neg (by omega), Nat.add_sub_cancel]

/-- The bits `e · 2^23 + q` stand for the significand `q` in binade `e`; a carry, `q = 2^24`, is the first significand of
the next binade. -/
theorem magUnits_significand {e q : Nat} (hlow : e = 0 ∨ 2 ^ 23 ≤ q) (hq : q ≤ 2 ^ 24) :
    magUnits (e * 2 ^ 23 + q) = q * 2 ^ e := by
  obtain hsub | hnorm := lt_or_ge q (2 ^ 23)
  · obtain rfl : e = 0 := by omega
    simpa using magUnits_subnormal hsub
  · obtain rfl | hlt := eq_or_lt_of_le hq
    · rw [show e * 2 ^ 23 + 2 ^ 24 = (e + 1 + 1) * 2 ^ 23 + 0 by ring, magUnits_normal (e + 1) (by decide)]
      ring
    · rw [show e * 2 ^ 23 + q = (e + 1) * 2 ^ 23 + (q - 2 ^ 23) by omega, magUnits_normal e (by omega),
        Nat.add_sub_cancel' hnorm]

/-- Every value is a 24-bit significand in its binade. -/
theorem exists_significand (m : Nat) : ∃ f e, f < 2 ^ 24 ∧ magUnits m = f * 2 ^ e := by
  have hfrac : m % 2 ^ 23 < 2 ^ 23 := Nat.mod_lt _ (by decide)
  by_cases hexp : m / 2 ^ 23 = 0
  · exact ⟨m % 2 ^ 23, 0, by omega, by rw [magUnits, if_pos hexp, pow_zero, mul_one]⟩
  · exact ⟨2 ^ 23 + m % 2 ^ 23, m / 2 ^ 23 - 1, by omega, by rw [magUnits, if_neg hexp]⟩

/-- A value is a multiple of binade `e`'s unit, or lies below that binade. -/
theorem magUnits_multiple_or_below (e m : Nat) : (∃ j, magUnits m = j * 2 ^ e) ∨ magUnits m < 2 ^ 23 * 2 ^ e := by
  obtain ⟨f, i, hf, hval⟩ := exists_significand m
  rw [hval]
  obtain hle | hlt := le_or_gt e i
  · exact .inl ⟨f * 2 ^ (i - e), by rw [mul_assoc, ← pow_add, Nat.sub_add_cancel hle]⟩
  · right
    calc f * 2 ^ i < 2 ^ 24 * 2 ^ i := Nat.mul_lt_mul_of_pos_right hf (Nat.two_pow_pos i)
      _ = 2 ^ 23 * 2 ^ (i + 1) := by ring
      _ ≤ 2 ^ 23 * 2 ^ e := Nat.mul_le_mul_left _ (Nat.pow_le_pow_right (by decide) hlt)

/-! ### The nearest binary32 value, ties to even -/

/-- The binade in which `rneBits` rounds a value of integer part `k`. -/
def binade (k : Nat) : Nat := if k < 2 ^ 24 then 0 else Nat.log2 k - 23

theorem rneBits_eq (n d : Nat) :
    rneBits n d = min 0x7F800000 (binade (n / d) * 2 ^ 23 + rneDiv n (d * 2 ^ binade (n / d))) := rfl

theorem binade_spec (k : Nat) : k < 2 ^ 24 * 2 ^ binade k ∧ (binade k = 0 ∨ 2 ^ 23 * 2 ^ binade k ≤ k) := by
  unfold binade
  split_ifs with hk
  · exact ⟨by simpa using hk, .inl rfl⟩
  · have hne : k ≠ 0 := by omega
    have hlog : 24 ≤ Nat.log2 k := (Nat.le_log2 hne).mpr (by omega)
    rw [← pow_add, ← pow_add, show 24 + (k.log2 - 23) = k.log2 + 1 by omega, show 23 + (k.log2 - 23) = k.log2 by omega]
    exact ⟨Nat.lt_log2_self, .inr (Nat.log2_self_le hne)⟩

section
variable {n d : Nat} (hd : 0 < d)
include hd

/-- `n / d` lies below the end of its binade, and at or past its start unless that is 0. -/
theorem binade_bounds : n < 2 ^ 24 * (d * 2 ^ binade (n / d)) ∧
    (binade (n / d) = 0 ∨ 2 ^ 23 * (d * 2 ^ binade (n / d)) ≤ n) := by
  obtain ⟨hlt, hle⟩ := binade_spec (n / d)
  refine ⟨?_, hle.imp_right fun h => ?_⟩
  · have := (Nat.div_lt_iff_lt_mul hd).mp hlt
    linarith
  · have := (Nat.le_div_iff_mul_le hd).mp h
    linarith

/-- The significand that `n / d` rounds to in its binade. -/
theorem rneDiv_significand :
    (binade (n / d) = 0 ∨ 2 ^ 23 ≤ rneDiv n (d * 2 ^ binade (n / d))) ∧
      rneDiv n (d * 2 ^ binade (n / d)) ≤ 2 ^ 24 := by
  obtain ⟨hlt, hle⟩ := binade_bounds hd
  have hunit : 0 < d * 2 ^ binade (n / d) := by positivity
  exact ⟨hle.imp_right (le_rneDiv hunit), rneDiv_le hunit (by omega)⟩

/-- Below half a unit above the largest finite value the result does not reach the infinity. -/
theorem rneBits_finite (hfin : n < d * ((2 ^ 25 - 1) * 2 ^ 252)) :
    binade (n / d) * 2 ^ 23 + rneDiv n (d * 2 ^ binade (n / d)) < 0x7F800000 := by
  obtain ⟨-, hstart⟩ := binade_bounds hd
  obtain ⟨-, hsig⟩ := rneDiv_significand (n := n) hd
  generalize binade (n / d) = e at *
  obtain hlt | rfl | hgt := lt_trichotomy e 253
  · omega
  · have hlast : rneDiv n (d * 2 ^ 253) ≤ 2 ^ 24 - 1 := rneDiv_le (by positivity) (by omega)
    omega
  · have hpow : d * 2 ^ 254 ≤ d * 2 ^ e := Nat.mul_le_mul_left d (Nat.pow_le_pow_right (by decide) hgt)
    omega

/-- From there on the result is the infinity. -/
theorem rneBits_overflow (hbig : d * ((2 ^ 25 - 1) * 2 ^ 252) ≤ n) : rneBits n d = 0x7F800000 := by
  obtain ⟨hend, -⟩ := binade_bounds (n := n) hd
  obtain ⟨hsig, -⟩ := rneDiv_significand (n := n) hd
  rw [rneBits_eq]
  generalize binade (n / d) = e at *
  apply min_eq_left
  obtain hlt | rfl | hgt := lt_trichotomy e 253
  · have hpow : d * 2 ^ e ≤ d * 2 ^ 252 := Nat.mul_le_mul_left d (Nat.pow_le_pow_right (by decide) (by omega))
    omega
  · have hlast : 2 ^ 24 - 1 < rneDiv n (d * 2 ^ 253) := lt_rneDiv_of_odd (by decide) (by positivity) (by omega)
    omega
  · omega

theorem rneBits_of_finite (hfin : n < d * ((2 ^ 25 - 1) * 2 ^ 252)) :
    rneBits n d = binade (n / d) * 2 ^ 23 + rneDiv n (d * 2 ^ binade (n / d)) :=
  (rneBits_eq n d).trans (min_eq_right (rneBits_finite hd hfin).le)

theorem magUnits_rneBits (hfin : n < d * ((2 ^ 25 - 1) * 2 ^ 252)) :
    magUnits (rneBits n d) * d = rneDiv n (d * 2 ^ binade (n / d)) * (d * 2 ^ binade (n / d)) := by
  obtain ⟨hlow, hhigh⟩ := rneDiv_significand (n := n) hd
  rw [rneBits_of_finite hd hfin, magUnits_significand hlow hhigh]
  ring

/-- A value is a multiple of the unit to which `n / d` is rounded, or lies below the binade of `n / d`. -/
theorem magUnits_multiple_or_below_binade (m : Nat) :
    (∃ j, magUnits m * d = j * (d * 2 ^ binade (n / d))) ∨
      (magUnits m * d < 2 ^ 23 * (d * 2 ^ binade (n / d)) ∧ 2 ^ 23 * (d * 2 ^ binade (n / d)) ≤ n) := by
  obtain hzero | hstart := (binade_bounds (n := n) hd).2
  · exact .inl ⟨magUnits m, by rw [hzero, pow_zero, mul_one]⟩
  · obtain ⟨j, hj⟩ | hbelow := magUnits_multiple_or_below (binade (n / d)) m
    · exact .inl ⟨j, by rw [hj]; ring⟩
    · have := Nat.mul_lt_mul_of_pos_right hbelow hd
      exact .inr ⟨by linarith, hstart⟩

/-- No value is nearer to `n / d` than the one `rneBits` gives, and of two as near its bits are the even ones. -/
theorem rneBits_nearest (hfin : n < d * ((2 ^ 25 - 1) * 2 ^ 252)) (m : Nat) :
    |(magUnits (rneBits n d) * d : Int) - n| ≤ |(magUnits m * d : Int) - n| ∧
      (|(magUnits (rneBits n d) * d : Int) - n| = |(magUnits m * d : Int) - n| → magUnits m ≠ magUnits (rneBits n d) →
        rneBits n d % 2 = 0) := by
  have hunit : 0 < d * 2 ^ binade (n / d) := by positivity
  have hval := magUnits_rneBits hd hfin
  obtain ⟨j, hj⟩ | ⟨hbelow, hstart⟩ := magUnits_multiple_or_below_binade hd (n := n) m
  · obtain ⟨hle, heven⟩ := rneDiv_nearest n j hunit
    rw [← Nat.cast_mul, ← Nat.cast_mul, hval, hj, Nat.cast_mul, Nat.cast_mul]
    refine ⟨hle, fun htie hne => ?_⟩
    have hother : j ≠ rneDiv n (d * 2 ^ binade (n / d)) := by
      rintro rfl
      exact hne (Nat.eq_of_mul_eq_mul_right hd (hj.trans hval.symm))
    have := heven htie hother
    rw [rneBits_of_finite hd hfin]
    omega
  · have hnear := (rneDiv_nearest n (2 ^ 23) hunit).1
    rw [← Nat.cast_mul, ← hval, ← Nat.cast_mul] at hnear
    have hfar : |((magUnits (rneBits n d) * d : Nat) : Int) - n| < |((magUnits m * d : Nat) : Int) - n| := by
      simp only [abs_eq_max_neg] at hnear ⊢
      omega
    rw [Nat.cast_mul, Nat.cast_mul] at hfar
    exact ⟨hfar.le, fun htie => absurd htie hfar.ne⟩

end

/-! ### Signs -/

/-- The integer of a sign and a magnitude. -/
def signed (neg : Bool) (m : Nat) : Int := if neg then -(m : Int) else m

@[simp] theorem signed_false (m : Nat) : signed false m = m := rfl

@[simp] theorem signed_true (m : Nat) : signed true m = -m := rfl

@[simp] theorem signed_zero (neg : Bool) : signed neg 0 = 0 := by
  cases neg <;> rfl

theorem signed_decide_natAbs (n : Int) : signed (decide (n < 0)) n.natAbs = n := by
  simp only [signed, decide_eq_true_eq]
  omega

theorem signed_mul_natCast (neg : Bool) (m d : Nat) : signed neg m * d = signed neg (m * d) := by
  cases neg <;> simp

@[simp] theorem abs_signed (neg : Bool) (m : Nat) : |signed neg m| = m := by
  cases neg <;> simp

theorem abs_signed_sub_signed (neg : Bool) (m n : Nat) : |signed neg m - signed neg n| = |(m : Int) - n| := by
  cases neg
  · rfl
  · simp only [signed_true, abs_eq_max_neg]
    omega

/-- Distances do not grow when the signs are dropped. -/
theorem abs_natCast_sub_le (a b : Bool) (m n : Nat) : |(m : Int) - n| ≤ |signed a m - signed b n| := by
  simpa using abs_abs_sub_abs_le_abs_sub (signed a m) (signed b n)

theorem fUnits_eq_signed (x : Word) : fUnits x = signed (fSign x) (magUnits (fAbsBits x)) := rfl

theorem toNat_fPack (neg : Bool) {m : Nat} (hm : m < 2 ^ 31) : (fPack neg m).toNat = (if neg then 2 ^ 31 else 0) + m := by
  rw [fPack, BitVec.toNat_ofNat]
  split <;> omega

theorem fAbsBits_fPack (neg : Bool) {m : Nat} (hm : m < 2 ^ 31) : fAbsBits (fPack neg m) = m := by
  rw [fAbsBits, toNat_fPack neg hm]
  split <;> omega

theorem fSign_fPack (neg : Bool) {m : Nat} (hm : m < 2 ^ 31) : fSign (fPack neg m) = neg := by
  rw [fSign, toNat_fPack neg hm]
  cases neg
  · exact decide_eq_false (by simpa using hm)
  · exact decide_eq_true (Nat.le_add_right _ _)

theorem fUnits_fPack (neg : Bool) {m : Nat} (hm : m < 2 ^ 31) : fUnits (fPack neg m) = signed neg (magUnits m) := by
  rw [fUnits_eq_signed, fSign_fPack neg hm, fAbsBits_fPack neg hm]

theorem fNotFinite_iff (x : Word) : fNotFinite x = true ↔ 0x7F800000 ≤ fAbsBits x := by
  rw [fNotFinite, Nat.ble_eq]

theorem rneBits_lt (n d : Nat) : rneBits n d < 2 ^ 31 :=
  (min_le_left _ _).trans_lt (by decide)

theorem rneBits_zero {d : Nat} (hd : 0 < d) : rneBits 0 d = 0 := by
  simp [rneBits, rneDiv, hd]

/-- The value with the other sign is as near to `n` only if one of the two is zero. -/
theorem eq_zero_of_opposite_tie {m n : Nat} {a b : Bool} (hab : a ≠ b) (h : |(m : Int) - n| = |signed a m - signed b n|) :
    m = 0 ∨ n = 0 := by
  have hsum : |signed a m - signed b n| = m + n := by
    cases a <;> cases b
    · exact absurd rfl hab
    · rw [signed_false, signed_true, sub_neg_eq_add, abs_of_nonneg (by positivity)]
    · rw [signed_true, signed_false, ← neg_add', abs_neg, abs_of_nonneg (by positivity)]
    · exact absurd rfl hab
  rw [hsum, abs_eq_max_neg] at h
  omega

/-- `rneBits_nearest` with the signs. -/
theorem fPack_rneBits_nearest (neg : Bool) {n d : Nat} (hd : 0 < d) (hfin : n < d * ((2 ^ 25 - 1) * 2 ^ 252)) (y : Word) :
    |fUnits (fPack neg (rneBits n d)) * d - signed neg n| ≤ |fUnits y * d - signed neg n| ∧
      (|fUnits (fPack neg (rneBits n d)) * d - signed neg n| = |fUnits y * d - signed neg n| →
        fUnits y ≠ fUnits (fPack neg (rneBits n d)) → (fPack neg (rneBits n d)).toNat % 2 = 0) := by
  have hparity : (fPack neg (rneBits n d)).toNat % 2 = rneBits n d % 2 := by
    rw [toNat_fPack neg (rneBits_lt n d)]
    split <;> omega
  obtain ⟨hle, heven⟩ := rneBits_nearest hd hfin (fAbsBits y)
  have hdrop := abs_natCast_sub_le (fSign y) neg (magUnits (fAbsBits y) * d) n
  rw [hparity, fUnits_fPack neg (rneBits_lt n d), fUnits_eq_signed, signed_mul_natCast, signed_mul_natCast,
    abs_signed_sub_signed]
  rw [← Nat.cast_mul, ← Nat.cast_mul] at hle heven
  refine ⟨hle.trans hdrop, fun htie hne => ?_⟩
  by_cases hmag : magUnits (fAbsBits y) = magUnits (rneBits n d)
  · rw [hmag] at htie hne
    have hsign : fSign y ≠ neg := fun h => hne (by rw [h])
    obtain hzero | rfl := eq_zero_of_opposite_tie hsign htie
    · have hval : magUnits (rneBits n d) = 0 := (Nat.mul_eq_zero.mp hzero).resolve_right hd.ne'
      exact absurd (by simp [hval]) hne
    · rw [rneBits_zero hd]
  · exact heven (le_antisymm hle (hdrop.trans_eq htie.symm)) hmag

/-- `rneBits` with a sign rounds to nearest-even, as 00_scope.md R11 defines it. -/
theorem isRne32_fPack_rneBits (neg : Bool) (n : Nat) {d : Nat} (hd : 0 < d) :
    IsRne32 (fPack neg (rneBits n d)) (signed neg n) d := by
  have hbound : 0 < d * ((2 ^ 25 - 1) * 2 ^ 252) := by positivity
  refine ⟨fun hfin => ?_, fun hbig => ?_, fun hbig => ?_⟩
  · rw [abs_signed] at hfin
    have hfin : n < d * ((2 ^ 25 - 1) * 2 ^ 252) := by omega
    refine ⟨?_, fun y _ => fPack_rneBits_nearest neg hd hfin y⟩
    rw [← Bool.not_eq_true, fNotFinite_iff, fAbsBits_fPack neg (rneBits_lt n d), rneBits_of_finite hd hfin, not_le]
    exact rneBits_finite hd hfin
  · cases neg
    · rw [signed_false] at hbig
      rw [rneBits_overflow hd (by omega)]
      rfl
    · rw [signed_true] at hbig
      omega
  · cases neg
    · rw [signed_false] at hbig
      omega
    · rw [signed_true] at hbig
      rw [rneBits_overflow hd (by omega)]
      rfl

/-! ### FROMFLOAT and TOFLOAT (41_fixpoint.md R151, R152) -/

theorem execFromfloat_eq (s : State) : exec .fromfloat s =
    .next (if fNotFinite s.regs.a then s.raise .float (uopInfo 0x0A 0) else s.setR (ffromfloat s.regs.a)) := rfl

theorem ftofloat_isRne32 (x : Word) : IsRne32 (ftofloat x) (x.toInt * 2 ^ 134) 1 := by
  have hrne := isRne32_fPack_rneBits (decide (s32 x < 0)) ((s32 x).natAbs * 2 ^ 134) (d := 1) (by decide)
  rwa [← signed_mul_natCast, signed_decide_natAbs, Nat.cast_pow, Nat.cast_ofNat] at hrne

/-- Every word times 2^134 units is far below the overflow. -/
theorem abs_toInt_mul_lt (x : Word) : |x.toInt * 2 ^ 134| < ((1 : Nat) : Int) * ((2 ^ 25 - 1) * 2 ^ 252) := by
  have hlo := BitVec.le_toInt x
  have hhi := BitVec.toInt_lt (x := x)
  rw [abs_eq_max_neg]
  omega

/-- Settles O4: FROMFLOAT rounds by `rha`, and TOFLOAT is `IsRne32`'s finite case. -/
theorem floatConversions : Obligations.FloatConversions := by
  unfold Obligations.FloatConversions
  refine ⟨by decide, by decide, fun s => ⟨fun hspecial => ?_, fun hfin => ?_, ?_⟩⟩
  · rw [execFromfloat_eq, if_pos ((fNotFinite_iff _).mpr hspecial)]
    rfl
  · refine ⟨rha (fUnits s.regs.a) (2 ^ 134), ?_, ?_⟩
    · rw [execFromfloat_eq, if_neg (mt (fNotFinite_iff _).mp hfin.not_ge)]
      rfl
    · have hspec := rha_spec (fUnits s.regs.a) (2 ^ 134) (by positivity)
      rwa [Nat.cast_pow, Nat.cast_ofNat] at hspec
  · obtain ⟨hfinite, hnearest⟩ := (ftofloat_isRne32 s.regs.a).1 (abs_toInt_mul_lt s.regs.a)
    simp only [Nat.cast_one, mul_one] at hnearest
    exact ⟨ftofloat s.regs.a, rfl, hfinite, hnearest⟩

end Sys2Proof.Machine
end

section
/-! Family 42_oscillators: the UOPs of the oscillators, each by its effect once the unit is admitted and no fill is in
progress. -/

namespace Sys2Proof.Machine

/-! ### The effect of each UOP (42_oscillators.md R175 to R187) -/

theorem State.uop_admitted {s : State} {op unit : Nat} {admitted exclusive : Bool} {effect : State → State}
    (hunit : admitted = true) (hidle : s.seq.busy = false) :
    s.uop op unit admitted exclusive effect = .next (effect s) := by
  rw [hunit, s.uop_ready op unit exclusive effect hidle]

theorem voiceAdmitted_of_lt {c : Cfg} {v : Nat} (hv : v < c.nvoices) : voiceAdmitted c v = true := by
  rwa [voiceAdmitted, Nat.blt_eq]

/-- Any oscillator of a voice that exists, and SINE0, are admitted (30_encoding.md R115). -/
theorem oscAdmitted_of_lt {c : Cfg} {v : Nat} (hv : v < c.nvoices) (k : Kind) :
    oscAdmitted c (if k = .sine then 0 else v) k = true := by
  cases k with
  | sine => rfl
  | _ => exact voiceAdmitted_of_lt hv

section
variable {s : State} {v : Nat} {k : Kind} (hunit : oscAdmitted s.cfg v k = true) (hidle : s.seq.busy = false)
include hunit hidle

theorem exec_oscReset : exec (.oscReset v k) s = .next (s.oscReset v k) := by
  apply State.uop_admitted hunit hidle

theorem exec_oscSetinc : exec (.oscSetinc v k) s = .next (s.oscSetInc v k s.regs.a) := by
  apply State.uop_admitted hunit hidle

theorem exec_oscRead_acc (hsel : s.regs.b = 0) : exec (.oscRead v k) s = .next (s.setR (s.oscAcc v k)) := by
  change execOscRead v k s = _
  rw [execOscRead, State.uop_admitted hunit hidle, hsel]
  rfl

theorem exec_oscRead_inc (hsel : s.regs.b = 1) : exec (.oscRead v k) s = .next (s.setR (s.oscInc v k)) := by
  change execOscRead v k s = _
  rw [execOscRead, State.uop_admitted hunit hidle, hsel]
  rfl

theorem exec_oscRead_width (hsel : s.regs.b = 2) : exec (.oscRead v k) s = .next (s.setR (s.oscWidth v k)) := by
  change execOscRead v k s = _
  rw [execOscRead, State.uop_admitted hunit hidle, hsel]
  rfl

theorem exec_oscRead_illegal (hsel : 3 ≤ s.regs.b.toNat) :
    exec (.oscRead v k) s = .next (s.raise .illegal (wordTop (encode (.oscRead v k)))) := by
  obtain ⟨n, hn⟩ := Nat.exists_eq_add_of_le' hsel
  change execOscRead v k s = _
  rw [execOscRead, State.uop_admitted hunit hidle, hn, encode, wordTop_uopWord]
  rfl

theorem exec_oscSetfreq_float (hk : k ≠ .noise) (hspecial : fNotFinite s.regs.a = true) :
    exec (.oscSetfreq v k) s = .next (s.raise .float (wordTop (encode (.oscSetfreq v k)))) := by
  change execOscSetfreq v k s = _
  rw [execOscSetfreq, State.uop_admitted hunit hidle, if_neg hk, if_pos hspecial, encode, wordTop_uopWord]

theorem exec_oscSetfreq_finite (hk : k ≠ .noise) (hfin : fNotFinite s.regs.a = false) :
    exec (.oscSetfreq v k) s = .next (s.oscSetInc v k
      (if k = .sub then incOfHalfFloat s.regs.a s.cfg.sr else incOfFloat s.regs.a s.cfg.sr)) := by
  change execOscSetfreq v k s = _
  rw [execOscSetfreq, State.uop_admitted hunit hidle, if_neg hk, if_neg (by simp [hfin]), ← apply_ite (s.oscSetInc v k)]

end

/-- Settles O6: the effects of OSC_RESET, OSC_SETINC and PULSE_SETW, kind by kind. -/
theorem oscControlUops : Obligations.OscControlUops := by
  unfold Obligations.OscControlUops
  intro s v hidle hv
  have hunit : voiceAdmitted s.cfg v = true := voiceAdmitted_of_lt hv
  refine ⟨⟨exec_oscReset hunit hidle, exec_oscReset hunit hidle, exec_oscReset hunit hidle, exec_oscReset hunit hidle,
      exec_oscReset rfl hidle⟩,
    ⟨exec_oscSetinc hunit hidle, exec_oscSetinc hunit hidle, exec_oscSetinc hunit hidle, exec_oscSetinc hunit hidle,
      exec_oscSetinc rfl hidle⟩, ?_⟩
  apply State.uop_admitted hunit hidle

/-- Settles O8: the three selectors, kind by kind, and the record of any other. -/
theorem oscReadUop : Obligations.OscReadUop := by
  unfold Obligations.OscReadUop
  intro s v hidle hv
  have hunit : voiceAdmitted s.cfg v = true := voiceAdmitted_of_lt hv
  refine ⟨fun hacc => ?_, fun hinc => ?_, fun hwidth => ?_, fun hother k => ⟨fun hk => ?_, ?_⟩⟩
  · exact ⟨exec_oscRead_acc hunit hidle hacc, exec_oscRead_acc hunit hidle hacc, exec_oscRead_acc hunit hidle hacc,
      exec_oscRead_acc hunit hidle hacc, exec_oscRead_acc rfl hidle hacc⟩
  · exact ⟨exec_oscRead_inc hunit hidle hinc, exec_oscRead_inc hunit hidle hinc, exec_oscRead_inc hunit hidle hinc,
      exec_oscRead_inc hunit hidle hinc, exec_oscRead_inc rfl hidle hinc⟩
  · exact ⟨exec_oscRead_width hunit hidle hwidth, exec_oscRead_width hunit hidle hwidth,
      exec_oscRead_width hunit hidle hwidth, exec_oscRead_width hunit hidle hwidth, exec_oscRead_width rfl hidle hwidth⟩
  · have hadmitted := oscAdmitted_of_lt hv k
    rw [if_neg hk] at hadmitted
    exact exec_oscRead_illegal hadmitted hidle hother
  · exact exec_oscRead_illegal rfl hidle hother

/-! ### The sample functions as bit-vector operations (42_oscillators.md R170, R181 to R187) -/

theorem wrap32_u32_add (a b : Word) : wrap32 (u32 a + u32 b) = a + b := by
  rw [wrap32, BitVec.ofInt_add, BitVec.ofInt_natCast, BitVec.ofInt_natCast, BitVec.ofNat_toNat, BitVec.ofNat_toNat,
    BitVec.setWidth_eq, BitVec.setWidth_eq]

theorem Osc.advance_eq (o : Osc) : o.advance = { o with acc := o.acc + o.inc } := by
  rw [Osc.advance, wrap32_u32_add]

theorem lcg_eq (seed : Word) : lcg seed = seed * 1664525 + 1013904223 := by
  rw [lcg, wrap32, BitVec.ofInt_add, BitVec.ofInt_mul, BitVec.ofInt_natCast, BitVec.ofNat_toNat, BitVec.setWidth_eq]
  rfl

/-- A field that ends at bit 31 is the word shifted right. -/
theorem bits_top (w : Word) (lo : Nat) : bits w 31 lo = (w >>> lo).toNat := by
  have hlt : w.toNat / 2 ^ lo < 2 ^ (31 + 1 - lo) := by
    rw [Nat.div_lt_iff_lt_mul (by positivity), ← pow_add]
    exact w.isLt.trans_le (Nat.pow_le_pow_right (by decide) (by omega))
  rw [bits, Nat.mod_eq_of_lt hlt, BitVec.toNat_ushiftRight, Nat.shiftRight_eq_div_pow]

theorem sawSample_eq (acc : Word) : sawSample acc = (acc >>> 16) - 32768 := by
  rw [sawSample, wrap32, bits_top, Int.sub_eq_add_neg, BitVec.ofInt_add, BitVec.ofInt_natCast, BitVec.ofNat_toNat,
    BitVec.setWidth_eq, BitVec.sub_eq_add_neg]
  rfl

theorem pulseSample_eq (acc width : Word) :
    pulseSample acc width = if ((acc >>> 17).toNat : Int) < width.toInt then 32768 else -32768 := by
  rw [pulseSample, bits_top]
  rfl

/-- The phase is in its first half just when the accumulator's top bit is clear. -/
theorem subSample_eq (acc : Word) : subSample acc = if acc.msb = false then 32768 else -32768 := by
  have hhalf : bits acc 31 17 < 16384 ↔ acc.msb = false := by
    rw [BitVec.msb_eq_false_iff_two_mul_lt, bits_top, BitVec.toNat_ushiftRight, Nat.shiftRight_eq_div_pow]
    omega
  rw [subSample, if_congr hhalf rfl rfl]
  rfl

theorem noiseSample_eq (seed : Word) : noiseSample seed = (seed.extractLsb' 16 16).signExtend 32 := by
  change fshra seed 16 = _
  rw [fshra_eq_sshiftRight]
  ext i hi
  rw [BitVec.getElem_sshiftRight, BitVec.getElem_signExtend]
  by_cases hlow : i < 16
  · rw [dif_pos (by omega), dif_pos hlow, BitVec.getElem_extractLsb', BitVec.getLsbD_eq_getElem]
  · rw [dif_neg (by omega), dif_neg hlow, BitVec.msb_extractLsb']
    rfl

/-- Settles O7: the statement's bit-vector operations are the model's sample functions, and each UOP emits one of them. -/
theorem oscSampleUops : Obligations.OscSampleUops := by
  unfold Obligations.OscSampleUops
  intro s v hidle hv
  have hunit : voiceAdmitted s.cfg v = true := voiceAdmitted_of_lt hv
  simp only [← sawSample_eq, ← pulseSample_eq, ← subSample_eq, ← noiseSample_eq, ← lcg_eq, ← Osc.advance_eq]
  refine ⟨?_, ?_, ?_, ?_, ?sine⟩
  case sine => apply State.uop_admitted rfl hidle
  all_goals apply State.uop_admitted hunit hidle

/-! ### OSC_SETFREQ (42_oscillators.md R171, R179) -/

/-- `rha_spec` with both terms of the fraction times 2^32. -/
theorem rha_spec_scaled (n : Int) {d : Nat} {e : Int} (hd : 0 < d) (he : (d : Int) * 2 ^ 32 = e) :
    2 * |n * 2 ^ 32 - rha n d * e| ≤ e ∧ (2 * |n * 2 ^ 32 - rha n d * e| = e → |n * 2 ^ 32| < |rha n d * e|) := by
  obtain ⟨hle, htie⟩ := rha_spec n d hd
  subst he
  have hpos : (0 : Int) < 2 ^ 32 := by decide
  have hfactor : 2 * |n * 2 ^ 32 - rha n d * (d * 2 ^ 32)| = 2 * |n - rha n d * d| * 2 ^ 32 := by
    rw [← mul_assoc, ← sub_mul, abs_mul, abs_of_pos hpos, mul_assoc]
  rw [hfactor, ← mul_assoc, abs_mul, abs_mul _ (2 ^ 32), abs_of_pos hpos]
  exact ⟨mul_le_mul_of_nonneg_right hle hpos.le, fun h =>
    mul_lt_mul_of_pos_right (htie (mul_right_cancel₀ hpos.ne' h)) hpos⟩

/-- Settles O9: the increment is `rha` of the frequency in units of 2^-149 Hz, the fraction scaled by 2^32. -/
theorem oscSetfreqUop : Obligations.OscSetfreqUop := by
  unfold Obligations.OscSetfreqUop
  intro s v hidle hv hsr
  have hunit : voiceAdmitted s.cfg v = true := voiceAdmitted_of_lt hv
  refine ⟨by apply State.uop_admitted hunit hidle, fun hspecial k hk => ?_, fun hfinite => ?_⟩
  · exact exec_oscSetfreq_float (oscAdmitted_of_lt hv k) hidle hk ((fNotFinite_iff _).mpr hspecial)
  · have hfin : fNotFinite s.regs.a = false := Bool.eq_false_iff.mpr (mt (fNotFinite_iff _).mp hfinite.not_ge)
    have hfull := rha_spec_scaled (fUnits s.regs.a) (d := 2 ^ 117 * s.cfg.sr) (e := 1 * s.cfg.sr * 2 ^ 149)
      (by positivity) (by push_cast; ring)
    have hhalf := rha_spec_scaled (fUnits s.regs.a) (d := 2 ^ 118 * s.cfg.sr) (e := 2 * s.cfg.sr * 2 ^ 149)
      (by positivity) (by push_cast; ring)
    exact ⟨_, _, hfull, hhalf, exec_oscSetfreq_finite hunit hidle (by decide) hfin,
      exec_oscSetfreq_finite hunit hidle (by decide) hfin, exec_oscSetfreq_finite hunit hidle (by decide) hfin,
      exec_oscSetfreq_finite rfl hidle (by decide) hfin⟩

/-! ### The note tables (42_oscillators.md R172) -/

/-- The search ends at the last `r` that is at most the rounded root, whichever bits it began with. -/
theorem roundedRoot_spec (n d k r : Nat) (hlow : atMostRounded n d r = true) (hhigh : atMostRounded n d (r + 2 ^ k) = false) :
    atMostRounded n d (roundedRoot n d k r) = true ∧ atMostRounded n d (roundedRoot n d k r + 1) = false := by
  induction k generalizing r with
  | zero => exact ⟨hlow, hhigh⟩
  | succ k ih =>
    rw [roundedRoot]
    split
    case isTrue hbit => exact ih _ hbit (by rwa [add_assoc, ← two_mul, ← pow_succ'])
    case isFalse hbit => exact ih r hlow (Bool.eq_false_iff.mpr hbit)

/-- `rootBits` bits are enough: with `l = log2(n / d)`, the root is below `2^((l + 1) / 12)`. -/
theorem atMostRounded_two_pow_rootBits (n : Nat) {d : Nat} (hd : 0 < d) :
    atMostRounded n d (2 ^ rootBits n d) = false := by
  have hlog : n < 2 ^ (Nat.log2 (n / d) + 1) * d := (Nat.div_lt_iff_lt_mul hd).mp Nat.lt_log2_self
  rw [atMostRounded, decide_eq_false_iff_not, not_le]
  calc 2 ^ 12 * n < 2 ^ 12 * (2 ^ (Nat.log2 (n / d) + 1) * d) := by gcongr
    _ = 2 ^ (Nat.log2 (n / d) + 13) * d := by ring
    _ ≤ 2 ^ (rootBits n d * 12) * d := by
      gcongr
      · decide
      · rw [rootBits]; omega
    _ = (2 ^ rootBits n d) ^ 12 * d := by rw [pow_mul]
    _ ≤ (2 * 2 ^ rootBits n d - 1) ^ 12 * d := by
      have hpos : 0 < 2 ^ rootBits n d := by positivity
      gcongr
      omega

/-- The search finds the integer nearest to the twelfth root of `n / d`. -/
theorem roundedRoot_nearest (n : Nat) {d : Nat} (hd : 0 < d) :
    (2 * roundedRoot n d (rootBits n d) 0 - 1) ^ 12 * d ≤ 2 ^ 12 * n ∧
      2 ^ 12 * n < (2 * roundedRoot n d (rootBits n d) 0 + 1) ^ 12 * d := by
  have hzero : atMostRounded n d 0 = true := by simp [atMostRounded]
  obtain ⟨hlow, hhigh⟩ := roundedRoot_spec n d (rootBits n d) 0 hzero
    (by rw [zero_add]; exact atMostRounded_two_pow_rootBits n hd)
  rw [atMostRounded, decide_eq_true_eq] at hlow
  rw [atMostRounded, decide_eq_false_iff_not, not_le, mul_add, mul_one, Nat.add_sub_assoc (by decide)] at hhigh
  exact ⟨hlow, hhigh⟩

theorem incOfNote_spec (f : NoteFreq) (h sr : Nat) (hden : 0 < f.den) (hsr : 0 < h * sr) :
    ∃ q : Nat, incOfNote f h sr = BitVec.ofNat 32 q ∧
      (2 * q - 1) ^ 12 * (f.den * (h * sr) ^ 12) ≤ 2 ^ 12 * (f.num * 2 ^ 384) ∧
      2 ^ 12 * (f.num * 2 ^ 384) < (2 * q + 1) ^ 12 * (f.den * (h * sr) ^ 12) :=
  ⟨_, BitVec.ofInt_natCast _ _, roundedRoot_nearest _ (by positivity)⟩

theorem Cfg.sr_pos_of_legal {c : Cfg} (h : c.legal = true) : 0 < c.sr := by
  simp only [Cfg.legal, Bool.and_eq_true, Bool.or_eq_true, beq_iff_eq] at h
  omega

theorem Cfg.noteHz_of_legal {c : Cfg} (h : c.legal = true) {n : Nat} (hn : n < 128) :
    ∃ f, c.noteHz[n]? = some f ∧ 0 < f.den := by
  simp only [Cfg.legal, Bool.and_eq_true, beq_iff_eq, List.all_eq_true, Nat.blt_eq] at h
  obtain ⟨⟨-, hlength⟩, hpos⟩ := h
  have hlt : n < c.noteHz.length := hlength ▸ hn
  exact ⟨c.noteHz[n], List.getElem?_eq_getElem hlt, (hpos _ (List.getElem_mem hlt)).2⟩

/-- Settles O11: both tables hold the rounded root that the search of `incOfNote` finds. -/
theorem noteTablesRounded : Obligations.NoteTablesRounded := by
  unfold Obligations.NoteTablesRounded
  intro c n hlegal hn
  obtain ⟨f, hf, hden⟩ := Cfg.noteHz_of_legal hlegal hn
  have hsr := Cfg.sr_pos_of_legal hlegal
  have hget : c.noteHz.getD n ⟨0, 1⟩ = f := by rw [List.getD_eq_getElem?_getD, hf, Option.getD_some]
  obtain ⟨q, hq, hqlow, hqhigh⟩ := incOfNote_spec f 1 c.sr hden (by omega)
  obtain ⟨h, hh, hhlow, hhhigh⟩ := incOfNote_spec f 2 c.sr hden (by omega)
  rw [one_mul] at hqlow hqhigh
  exact ⟨f, q, h, hf, by rw [noteInc, hget, hq], by rw [subInc, hget, hh],
    .inr hqlow, hqhigh, .inr hhlow, hhhigh⟩

end Sys2Proof.Machine
end

section
/-! Family 43_sine_lut: the interpolator, exact and between the two table entries it starts from. -/

namespace Sys2Proof.Machine

/-! ### Index and fraction (43_sine_lut.md R201) -/

theorem sineIdx_eq (a : Word) : sineIdx a = (a >>> 22).toNat := bits_top a 22

theorem sineFrac_eq (a : Word) : sineFrac a = ((a >>> 7) &&& 0x7FFF).toNat := by
  have hmask : (0x7FFF : Word).toNat = 2 ^ 15 - 1 := by decide
  rw [sineFrac, bits, BitVec.toNat_and, hmask, Nat.and_two_pow_sub_one_eq_mod, BitVec.toNat_ushiftRight,
    Nat.shiftRight_eq_div_pow]

theorem sineFrac_lt (a : Word) : sineFrac a < 2 ^ 15 := Nat.mod_lt _ (by decide)

/-! ### Interpolation (43_sine_lut.md R202) -/

/-- A fraction of at most one takes `t0` no further than to `t1`, whichever of the two is the larger. -/
theorem interpolation_mem (t0 t1 f : Int) (hlo : 0 ≤ f) (hhi : f ≤ 2 ^ 15) :
    min t0 t1 ≤ t0 + asr (f * (t1 - t0)) 15 ∧ t0 + asr (f * (t1 - t0)) 15 ≤ max t0 t1 := by
  rw [asr]
  rcases le_total t0 t1 with hup | hdown
  · have hstart : 0 ≤ f * (t1 - t0) := mul_nonneg hlo (sub_nonneg.mpr hup)
    have hend : f * (t1 - t0) ≤ 2 ^ 15 * (t1 - t0) := mul_le_mul_of_nonneg_right hhi (sub_nonneg.mpr hup)
    omega
  · have hstart : f * (t1 - t0) ≤ 0 := mul_nonpos_of_nonneg_of_nonpos hlo (sub_nonpos.mpr hdown)
    have hend : 2 ^ 15 * (t1 - t0) ≤ f * (t1 - t0) := mul_le_mul_of_nonpos_right hhi (sub_nonpos.mpr hdown)
    omega

/-- The 32-bit result is the exact interpolation: between two words it cannot wrap. -/
theorem s32_sineInterp (c : Cfg) (a : Word) :
    let t0 := s32 (sineRom c (sineIdx a))
    let t1 := s32 (sineRom c ((sineIdx a + 1) % 1024))
    s32 (sineInterp c a) = t0 + asr (sineFrac a * (t1 - t0)) 15 ∧
      min t0 t1 ≤ s32 (sineInterp c a) ∧ s32 (sineInterp c a) ≤ max t0 t1 := by
  intro t0 t1
  obtain ⟨hmin, hmax⟩ := interpolation_mem t0 t1 (sineFrac a) (by positivity) (mod_cast (sineFrac_lt a).le)
  have hexact : s32 (sineInterp c a) = t0 + asr (sineFrac a * (t1 - t0)) 15 :=
    s32_wrap32 _ ((le_min (BitVec.le_toInt _) (BitVec.le_toInt _)).trans hmin)
      (hmax.trans_lt (max_lt BitVec.toInt_lt BitVec.toInt_lt))
  exact ⟨hexact, hexact ▸ hmin, hexact ▸ hmax⟩

/-- Settles O10: the index and fraction are the shifted fields, and the floor is the model's arithmetic shift. -/
theorem sineLutUop : Obligations.SineLutUop := by
  unfold Obligations.SineLutUop
  refine ⟨by decide, fun s => ⟨sineInterp s.cfg s.regs.a, rfl, ?_⟩⟩
  rw [← sineIdx_eq, ← sineFrac_eq, Int.fdiv_eq_ediv_of_nonneg _ (by decide)]
  exact s32_sineInterp s.cfg s.regs.a

end Sys2Proof.Machine
end

section
/-! Family 44_smoother: the ramp case by case, the UOPs by their effects, and the ramp's end at the target. -/

namespace Sys2Proof.Machine

/-! ### The advance and the taken target, case by case (44_smoother.md R223) -/

section
variable {m : Smoother}

theorem Smoother.advance_of_remaining_zero (h : m.remaining = 0) : m.advance = m := if_pos h

theorem Smoother.advance_of_remaining_one (h : m.remaining = 1) :
    m.advance = { m with current := m.target, remaining := 0 } := by
  rw [advance, if_neg (by rw [h]; decide), if_pos h]

theorem Smoother.advance_of_one_lt_remaining (h : 1 < m.remaining.toNat) :
    m.advance = { m with current := m.current + m.step, remaining := m.remaining - 1 } := by
  have hzero : m.remaining ≠ 0 := fun hz => absurd (hz ▸ h) (by decide)
  have hone : m.remaining ≠ 1 := fun ho => absurd (ho ▸ h) (by decide)
  rw [advance, if_neg hzero, if_neg hone, fadd_eq_add]

theorem Smoother.take_of_ramp_zero (t : Word) (h : m.rampLength = 0) :
    m.take t = { m with hasNew := false, target := t, current := t, step := 0, remaining := 0 } := if_pos h

theorem Smoother.take_of_ramp (t : Word) (h : m.rampLength ≠ 0) :
    m.take t = { m with
      hasNew := false, target := t, remaining := m.rampLength
      step := BitVec.ofInt 32 (Int.tdiv (t - m.current).toInt m.rampLength.toNat) } := by
  rw [take, if_neg h, fsub_eq_sub]
  rfl

theorem Smoother.next_of_waiting (h : m.hasNew = true) : m.next = (m.take m.pending).advance := by
  rw [next, if_pos h]

theorem Smoother.next_of_not_waiting (h : m.hasNew = false) : m.next = m.advance := by
  rw [next, if_neg (Bool.eq_false_iff.mp h)]

end

/-! ### The end of the ramp (44_smoother.md R225) -/

@[simp] theorem Smoother.advance_target (m : Smoother) : m.advance.target = m.target := by
  unfold advance
  split_ifs <;> rfl

@[simp] theorem Smoother.advance_hasNew (m : Smoother) : m.advance.hasNew = m.hasNew := by
  unfold advance
  split_ifs <;> rfl

@[simp] theorem Smoother.take_target (m : Smoother) (t : Word) : (m.take t).target = t := by
  unfold take
  split <;> rfl

@[simp] theorem Smoother.take_hasNew (m : Smoother) (t : Word) : (m.take t).hasNew = false := by
  unfold take
  split <;> rfl

@[simp] theorem Smoother.take_remaining (m : Smoother) (t : Word) : (m.take t).remaining = m.rampLength := by
  unfold take
  split
  case isTrue hzero => exact hzero.symm
  case isFalse => rfl

theorem Smoother.toNat_remaining_advance (m : Smoother) : m.advance.remaining.toNat = m.remaining.toNat - 1 := by
  obtain hrest | hlast | hinside : m.remaining.toNat = 0 ∨ m.remaining.toNat = 1 ∨ 1 < m.remaining.toNat := by omega
  · rw [advance_of_remaining_zero (BitVec.eq_of_toNat_eq hrest), hrest]
  · rw [advance_of_remaining_one (BitVec.eq_of_toNat_eq hlast), hlast]
    rfl
  · rw [advance_of_one_lt_remaining hinside]
    change (m.remaining - 1).toNat = m.remaining.toNat - 1
    bv_omega

/-- Without a new target a ramp ends at its target, whatever its step: the last call writes the target itself, and after it
nothing moves. -/
theorem Smoother.iter_current_eq_target {n : Nat} {m : Smoother} (hnew : m.hasNew = false) (hsettled : m.settled)
    (hn : m.remaining.toNat ≤ n) : (iter n m).current = m.target := by
  induction n generalizing m with
  | zero => exact hsettled (BitVec.eq_of_toNat_eq (Nat.le_zero.mp hn))
  | succ n ih =>
    have hlen : m.advance.remaining.toNat ≤ n := by rw [toNat_remaining_advance]; omega
    rw [iter, next_of_not_waiting hnew, ih (by rw [advance_hasNew, hnew]) (m.settled_advance hsettled) hlen, advance_target]

/-- The first call after set_target takes the target, so that the calls are those of the ramp it begins. -/
theorem Smoother.iter_setTarget (n : Nat) (m : Smoother) (b : Word) :
    iter (n + 1) (m.setTarget b) = iter (n + 1) ((m.setTarget b).take b) := by
  rw [iter, iter, next_of_waiting rfl, next_of_not_waiting (take_hasNew _ _)]
  rfl

theorem Smoother.iter_setTarget_current {n : Nat} {m : Smoother} (b : Word) (h : m.rampLength.toNat ≤ n + 1) :
    (iter (n + 1) (m.setTarget b)).current = b := by
  have hlen : ((m.setTarget b).take b).remaining.toNat ≤ n + 1 := by rwa [take_remaining]
  rw [iter_setTarget, iter_current_eq_target (take_hasNew _ _) (settled_take _ _) hlen, take_target]

/-- Settles O16: the first call takes the target, and the ramp it begins ends there. -/
theorem smootherReachesTarget : Obligations.SmootherReachesTarget := by
  unfold Obligations.SmootherReachesTarget
  refine fun m b => ⟨?_, fun hzero => Smoother.iter_setTarget_current b (by rw [hzero]; decide)⟩
  split
  case isTrue hzero => rw [hzero]; rfl
  case isFalse hramp =>
    obtain ⟨n, hn⟩ := Nat.exists_eq_succ_of_ne_zero fun h => hramp (BitVec.eq_of_toNat_eq h)
    rw [hn]
    exact Smoother.iter_setTarget_current b hn.le

/-! ### Two writes to one smoother -/

@[simp] theorem Voice.setSm_setSm (x : Voice) (k : VoiceSm) (m n : Smoother) : (x.setSm k m).setSm k n = x.setSm k n := by
  cases k <;> rfl

@[simp] theorem Mix.set_set (x : Mix) (g : GlobalSm) (m n : Smoother) : (x.set g m).set g n = x.set g n := by
  cases g <;> rfl

/-- The later write remains; to a smoother that does not exist both do nothing. -/
@[simp] theorem State.setSm_setSm (s : State) (id : SmId) (m n : Smoother) : (s.setSm id m).setSm id n = s.setSm id n := by
  cases id with
  | global g => simp [State.setSm]
  | voice v k =>
    by_cases hv : v < s.voices.length
    · simp only [State.setSm, State.voice_setVoice_self _ _ _ hv, Voice.setSm_setSm]
      simp [State.setVoice]
    · simp [State.setSm, State.setVoice, List.set_eq_of_length_le (not_lt.mp hv)]

theorem State.sm_withPort (s : State) (p : Port) (id : SmId) : { s with port := p }.sm id = s.sm id := by cases id <;> rfl

theorem State.setSm_withPort (s : State) (p : Port) (id : SmId) (m : Smoother) :
    { s with port := p }.setSm id m = { s.setSm id m with port := p } := by cases id <;> rfl

/-! ### The effect of each UOP (44_smoother.md R217 to R225) -/

/-- Every smoother that exists is admitted (30_encoding.md R115). -/
theorem smAdmitted_of_lt {c : Cfg} {id : SmId} (h : ∀ v k, id = .voice v k → v < c.nvoices) : smAdmitted c id = true := by
  cases id with
  | global g => rfl
  | voice v k => exact voiceAdmitted_of_lt (h v k rfl)

/-- W1 alone, during a fill or not. -/
theorem exec_smSettarget {s : State} {id : SmId} (hunit : smAdmitted s.cfg id = true) :
    exec (.smSettarget id) s = .next { s.setSm id { s.sm id with pending := s.regs.a } with
      port := { s.port with w2Wait := some id } } := by
  change execSmSettarget id s = _
  rw [execSmSettarget, hunit, State.uop_shared]
  simp only [State.setSm_port]
  rfl

/-- W2 alone, before anything else CONTROL has to do. -/
theorem State.controlStep_of_w2Wait {s : State} {id : SmId} (h : s.port.w2Wait = some id) :
    s.controlStep = .next { s.setSm id { s.sm id with hasNew := true } with port := { s.port with w2Wait := none } } := by
  rw [State.controlStep, h]
  simp only [State.finishSettarget, State.setSm_port]
  rfl

/-- Settles O13: W1 and W2 write the same smoother, each one field of it. -/
theorem smSettargetUop : Obligations.SmSettargetUop := by
  unfold Obligations.SmSettargetUop
  intro s id hbank hv
  have hself (m : Smoother) : (s.setSm id m).sm id = m := s.sm_setSm_self id m fun v k h => hbank ▸ hv v k h
  refine ⟨_, _, exec_smSettarget (smAdmitted_of_lt hv), State.controlStep_of_w2Wait rfl, ?_, rfl, ?_, rfl, ?_⟩
  all_goals simp only [State.sm_withPort, State.setSm_withPort, State.setSm_setSm, hself]

section
variable {s : State} {id : SmId} (hunit : smAdmitted s.cfg id = true) (hidle : s.seq.busy = false)
include hunit hidle

theorem exec_smNext : exec (.smNext id) s = .next ((s.setSm id (s.sm id).next).setR (s.sm id).next.current) := by
  apply State.uop_admitted hunit hidle

theorem exec_smRead_field {x : Word} (hsel : (s.sm id).field s.regs.b.toNat = some x) :
    exec (.smRead id) s = .next (s.setR x) := by
  change execSmRead id s = _
  rw [execSmRead, State.uop_admitted hunit hidle, hsel]

theorem exec_smRead_illegal (hsel : 7 ≤ s.regs.b.toNat) :
    exec (.smRead id) s = .next (s.raise .illegal (wordTop (encode (.smRead id)))) := by
  obtain ⟨n, hn⟩ := Nat.exists_eq_add_of_le' hsel
  change execSmRead id s = _
  rw [execSmRead, State.uop_admitted hunit hidle, hn, encode, wordTop_uopWord]
  rfl

end

/-- Settles O14: the function `next` in its six cases; with a ramp of length 1 the step is the whole way. -/
theorem smNextUop : Obligations.SmNextUop := by
  unfold Obligations.SmNextUop
  intro s id hidle hv m done
  have hdone {x : Smoother} (hx : m.next = x) : done x := hx ▸ exec_smNext (smAdmitted_of_lt hv) hidle
  refine ⟨fun hnew hrem => hdone ?_, fun hnew hrem => hdone ?_, fun hnew hrem => hdone ?_,
    fun hnew hramp => hdone ?_, fun hnew hramp => hdone ?_, fun hnew hramp => hdone ?_⟩
  · rw [Smoother.next_of_not_waiting hnew, Smoother.advance_of_remaining_zero hrem]
  · rw [Smoother.next_of_not_waiting hnew, Smoother.advance_of_remaining_one hrem]
  · rw [Smoother.next_of_not_waiting hnew, Smoother.advance_of_one_lt_remaining hrem]
  · rw [Smoother.next_of_waiting hnew, Smoother.take_of_ramp_zero _ hramp, Smoother.advance_of_remaining_zero rfl]
  · have hone : (1 : Word).toNat = 1 := rfl
    have hne : m.rampLength ≠ 0 := by rw [hramp]; decide
    rw [Smoother.next_of_waiting hnew, Smoother.take_of_ramp _ hne, Smoother.advance_of_remaining_one hramp, hramp, hone,
      Nat.cast_one, Int.tdiv_one, BitVec.ofInt_toInt]
  · have hne : m.rampLength ≠ 0 := fun hz => absurd (hz ▸ hramp) (by decide)
    rw [Smoother.next_of_waiting hnew, Smoother.take_of_ramp _ hne, Smoother.advance_of_one_lt_remaining hramp]

/-- Settles O12: the functions `sm_reset` and `sm_set_value` field by field. -/
theorem smWriteUops : Obligations.SmWriteUops := by
  unfold Obligations.SmWriteUops
  intro s id hidle hv
  have hunit := smAdmitted_of_lt hv
  constructor <;> apply State.uop_admitted hunit hidle

/-- Settles O15: the fields by selector, and the record of any other. -/
theorem smReadUop : Obligations.SmReadUop := by
  unfold Obligations.SmReadUop
  intro s id hidle hv m
  have hunit := smAdmitted_of_lt hv
  have hread {x : Word} (sel : Word) (hx : m.field sel.toNat = some x) (hsel : s.regs.b = sel) :
      exec (.smRead id) s = .next (s.setR x) := exec_smRead_field hunit hidle (hsel ▸ hx)
  have hflag : BitVec.ofNat 32 m.hasNew.toNat = if m.hasNew then 1 else 0 := by cases m.hasNew <;> rfl
  exact ⟨hread 0 rfl, hread 1 rfl, hread 2 rfl, hread 3 rfl, hread 4 rfl, hread 5 rfl, hread 6 (congrArg some hflag),
    exec_smRead_illegal hunit hidle⟩

end Sys2Proof.Machine
end

section
/-! Family 45_parameters: the binary32 operations of 45_parameters.md R246 and R248 as exact integer operations followed by one
rounding. -/

namespace Sys2Proof.Machine

/-! ### Rounding is monotone -/

@[simp] theorem magUnits_zero : magUnits 0 = 0 := magUnits_subnormal (by decide)

theorem rneBits_le (n d : Nat) : rneBits n d ≤ 0x7F800000 := min_le_left _ _

/-- Magnitude bits up to those of an infinity stand for no more than the infinity reads as. -/
theorem magUnits_le_infinity {m : Nat} (hm : m ≤ 0x7F800000) : magUnits m ≤ magUnits 0x7F800000 := by
  have hinf : magUnits 0x7F800000 = 2 ^ 23 * 2 ^ 254 := magUnits_significand (e := 254) (q := 2 ^ 23) (by decide) (by decide)
  obtain rfl | hlt := eq_or_lt_of_le hm
  · rfl
  · rw [hinf]
    by_cases hexp : m / 2 ^ 23 = 0
    · rw [magUnits, if_pos hexp]
      omega
    · have hpow : 2 ^ (m / 2 ^ 23 - 1) ≤ 2 ^ 253 := Nat.pow_le_pow_right (by decide) (by omega)
      rw [magUnits, if_neg hexp]
      calc (2 ^ 23 + m % 2 ^ 23) * 2 ^ (m / 2 ^ 23 - 1) ≤ 2 ^ 24 * 2 ^ 253 := Nat.mul_le_mul (by omega) hpow
        _ = 2 ^ 23 * 2 ^ 254 := by ring

theorem magUnits_rneBits_mono {m n d : Nat} (hd : 0 < d) (h : m ≤ n) :
    magUnits (rneBits m d) ≤ magUnits (rneBits n d) := by
  obtain hbig | hfin := le_or_gt (d * ((2 ^ 25 - 1) * 2 ^ 252)) n
  · rw [rneBits_overflow hd hbig]
    exact magUnits_le_infinity (rneBits_le m d)
  · obtain rfl | hlt := eq_or_lt_of_le h
    · rfl
    · have hm := (rneBits_nearest hd (h.trans_lt hfin) (rneBits n d)).1
      have hn := (rneBits_nearest hd hfin (rneBits m d)).1
      refine Nat.le_of_mul_le_mul_right ?_ hd
      rw [← Nat.cast_mul, ← Nat.cast_mul, abs_eq_max_neg, abs_eq_max_neg] at hm hn
      omega

/-! ### The value a fraction rounds to -/

/-- What `n / d` units round to, in units (00_scope.md R11). -/
def rneUnits (n : Int) (d : Nat) : Int := signed (decide (n < 0)) (magUnits (rneBits n.natAbs d))

@[simp] theorem rneUnits_natCast (n d : Nat) : rneUnits n d = magUnits (rneBits n d) := by
  rw [rneUnits, decide_eq_false (by omega), signed_false, Int.natAbs_natCast]

section
variable {d : Nat} (hd : 0 < d)
include hd

/-- `rneUnits` is the value of the patterns the operations build (00_scope.md R11). -/
theorem fUnits_fPack_rneBits (neg : Bool) (n : Nat) : fUnits (fPack neg (rneBits n d)) = rneUnits (signed neg n) d := by
  rw [fUnits_fPack neg (rneBits_lt n d)]
  obtain rfl | hpos := Nat.eq_zero_or_pos n
  · rw [signed_zero, rneUnits, Int.natAbs_zero, rneBits_zero hd, magUnits_zero, signed_zero, signed_zero]
  · cases neg
    · rw [signed_false, signed_false, rneUnits_natCast]
    · rw [signed_true n, rneUnits, decide_eq_true (by omega), Int.natAbs_neg, Int.natAbs_natCast]

theorem rneUnits_neg (n : Int) : rneUnits (-n) d = -rneUnits n d := by
  have hcast (m : Nat) : rneUnits (-(m : Int)) d = -rneUnits m d := by
    rw [← signed_true, ← fUnits_fPack_rneBits hd, fUnits_fPack true (rneBits_lt m d), signed_true, rneUnits_natCast]
  obtain ⟨m, rfl | rfl⟩ := n.eq_nat_or_neg
  · exact hcast m
  · rw [neg_neg, hcast, neg_neg]

theorem rneUnits_mono {m n : Int} (h : m ≤ n) : rneUnits m d ≤ rneUnits n d := by
  obtain ⟨a, rfl | rfl⟩ := m.eq_nat_or_neg <;> obtain ⟨b, rfl | rfl⟩ := n.eq_nat_or_neg <;>
    simp only [rneUnits_neg hd, rneUnits_natCast]
  · exact_mod_cast magUnits_rneBits_mono hd (by omega)
  · obtain ⟨rfl, rfl⟩ : a = 0 ∧ b = 0 := by omega
    simp [rneBits_zero hd]
  · omega
  · have := magUnits_rneBits_mono hd (show b ≤ a by omega)
    omega

/-- A finite value rounds to itself. -/
theorem rneUnits_mul_self (x : Word) (hfin : |fUnits x| < (2 ^ 25 - 1) * 2 ^ 252) : rneUnits (fUnits x * d) d = fUnits x := by
  rw [fUnits_eq_signed, abs_signed] at hfin
  have hmul : magUnits (fAbsBits x) * d < d * ((2 ^ 25 - 1) * 2 ^ 252) := by
    rw [mul_comm]
    exact Nat.mul_lt_mul_of_pos_left (by omega) hd
  have hnear := (rneBits_nearest hd hmul (fAbsBits x)).1
  rw [Nat.cast_mul, sub_self, abs_zero, abs_nonpos_iff, ← sub_mul, mul_eq_zero, sub_eq_zero, Nat.cast_inj,
    Nat.cast_eq_zero] at hnear
  rw [fUnits_eq_signed, signed_mul_natCast, ← fUnits_fPack_rneBits hd, fUnits_fPack _ (rneBits_lt _ _),
    hnear.resolve_right hd.ne']

end

/-! ### The operations, each one rounding of the exact result -/

theorem signed_mul_signed (a b : Bool) (m n : Nat) : signed a m * signed b n = signed (a != b) (m * n) := by
  cases a <;> cases b <;> simp

theorem signed_mul_sign (a b : Bool) (m : Nat) {n : Nat} (hn : n ≠ 0) :
    signed a m * (signed b n).sign = signed (a != b) m := by
  have hsign : (n : Int).sign = 1 := Int.sign_eq_one_of_pos (by omega)
  cases a <;> cases b <;> simp [hsign]

theorem fUnits_eq_signed_fMag (x : Word) : fUnits x = signed (fSign x) (fMag x) := rfl

theorem fUnits_fpNeg (y : Word) : fUnits (fpNeg y) = -fUnits y := by
  rw [fpNeg, fUnits_fPack (m := fAbsBits y) _ (Nat.mod_lt _ (by decide)), fUnits_eq_signed]
  cases fSign y <;> simp

/-- Where the exact sum is 0 the bits are those of 0, with IEEE's sign (log 21). -/
theorem exists_fpAdd_eq (x y : Word) : ∃ neg n, fUnits x + fUnits y = signed neg n ∧ fpAdd x y = fPack neg (rneBits n 1) := by
  by_cases hzero : fUnits x + fUnits y = 0
  · exact ⟨fSign x && fSign y, 0, by simp [hzero], by simp [fpAdd, hzero, rneBits_zero]⟩
  · exact ⟨_, _, (signed_decide_natAbs _).symm, if_neg hzero⟩

section
variable (x y : Word)

theorem fpAdd_isRne32 : IsRne32 (fpAdd x y) (fUnits x + fUnits y) 1 := by
  obtain ⟨neg, n, hsum, hbits⟩ := exists_fpAdd_eq x y
  rw [hsum, hbits]
  exact isRne32_fPack_rneBits neg n (by decide)

theorem fUnits_fpAdd : fUnits (fpAdd x y) = rneUnits (fUnits x + fUnits y) 1 := by
  obtain ⟨neg, n, hsum, hbits⟩ := exists_fpAdd_eq x y
  rw [hsum, hbits, fUnits_fPack_rneBits (by decide)]

theorem fpSub_isRne32 : IsRne32 (fpSub x y) (fUnits x - fUnits y) 1 := by
  rw [sub_eq_add_neg, ← fUnits_fpNeg]
  exact fpAdd_isRne32 x (fpNeg y)

theorem fUnits_fpSub : fUnits (fpSub x y) = rneUnits (fUnits x - fUnits y) 1 := by
  rw [sub_eq_add_neg, ← fUnits_fpNeg]
  exact fUnits_fpAdd x (fpNeg y)

theorem fpMul_isRne32 : IsRne32 (fpMul x y) (fUnits x * fUnits y) (2 ^ 149) := by
  rw [fUnits_eq_signed_fMag, fUnits_eq_signed_fMag, signed_mul_signed]
  exact isRne32_fPack_rneBits _ _ (by positivity)

theorem fUnits_fpMul : fUnits (fpMul x y) = rneUnits (fUnits x * fUnits y) (2 ^ 149) := by
  rw [fUnits_eq_signed_fMag x, fUnits_eq_signed_fMag y, signed_mul_signed]
  exact fUnits_fPack_rneBits (by positivity) _ _

end

end Sys2Proof.Machine
end

section
/-! Family 45_parameters: the PARAM-class UOPs, and the normalized view as the exact view of the 0..1 parameters. -/

namespace Sys2Proof.Machine

/-! ### A store to one cell (45_parameters.md R242) -/

theorem fpLt_iff (x y : Word) : fpLt x y = true ↔ fUnits x < fUnits y := by
  rw [fpLt, decide_eq_true_eq]

section
variable {i : Nat} {x : Word}

theorem paramClamp_of_lt_min (h : fUnits x < fUnits (paramMeta i).min) : paramClamp i x = (paramMeta i).min :=
  if_pos ((fpLt_iff _ _).mpr h)

theorem paramClamp_of_max_lt (hmin : fUnits (paramMeta i).min ≤ fUnits x) (h : fUnits (paramMeta i).max < fUnits x) :
    paramClamp i x = (paramMeta i).max := by
  rw [paramClamp, if_neg (mt (fpLt_iff _ _).mp hmin.not_gt), if_pos ((fpLt_iff _ _).mpr h)]

theorem paramClamp_of_mem (hmin : fUnits (paramMeta i).min ≤ fUnits x) (hmax : fUnits x ≤ fUnits (paramMeta i).max) :
    paramClamp i x = x := by
  rw [paramClamp, if_neg (mt (fpLt_iff _ _).mp hmin.not_gt), if_neg (mt (fpLt_iff _ _).mp hmax.not_gt)]

end

section
variable (s : State) (i : Nat) (x : Word)

theorem State.storeCell_latest (hi : i < s.cells.length) : ((s.storeCell i x).cell i).latest = paramClamp i x :=
  congrArg Cell.latest (s.cell_set_self i _ hi)

theorem State.storeCell_other (j : Nat) (hj : j ≠ i) : (s.storeCell i x).cells[j]? = s.cells[j]? :=
  List.getElem?_set_ne hj.symm

end

/-! ### The effect of each UOP (45_parameters.md R243, R245, R247, R249) -/

section
variable {s : State} (i : Fin 12)

theorem exec_paramSet_nan (h : fIsNaN s.regs.a = true) :
    exec (.paramSet i) s = .next (s.raise .float (wordTop (encode (.paramSet i)))) := by
  change execParamSet i s = _
  rw [execParamSet, if_pos h, encode, wordTop_uopWord]

theorem exec_paramSet_number (h : fIsNaN s.regs.a = false) : exec (.paramSet i) s = .next (s.storeCell i s.regs.a) := by
  change execParamSet i s = _
  rw [execParamSet, if_neg (by simp [h])]

theorem exec_paramSetn_nan (h : fIsNaN s.regs.a = true) :
    exec (.paramSetn i) s = .next (s.raise .float (wordTop (encode (.paramSetn i)))) := by
  change execParamSetn i s = _
  rw [execParamSetn, if_pos h, encode, wordTop_uopWord]

theorem exec_paramSetn_number (h : fIsNaN s.regs.a = false) :
    exec (.paramSetn i) s = .next (s.storeCell i (paramDenormalize i s.regs.a)) := by
  change execParamSetn i s = _
  rw [execParamSetn, if_neg (by simp [h])]

theorem exec_paramGet_field {x : Word} (hsel : s.paramField i s.regs.b.toNat = some x) :
    exec (.paramGet i) s = .next (s.setR x) := by
  change execParamGet i s = _
  rw [execParamGet, hsel]

theorem exec_paramGet_illegal (hsel : 5 ≤ s.regs.b.toNat) :
    exec (.paramGet i) s = .next (s.raise .illegal (wordTop (encode (.paramGet i)))) := by
  obtain ⟨n, hn⟩ := Nat.exists_eq_add_of_le' hsel
  change execParamGet i s = _
  rw [execParamGet, hn, encode, wordTop_uopWord]
  rfl

theorem exec_paramGetn : exec (.paramGetn i) s = .next (s.setR (paramNormalize i (s.cell i).latest)) := rfl

end

/-- Settles O17: a NaN is recorded, and any other operand is stored through the clamp. -/
theorem paramSetUop : Obligations.ParamSetUop := by
  unfold Obligations.ParamSetUop
  intro s i hlen p
  have hi : i.val < s.cells.length := i.isLt.trans_eq hlen.symm
  have hle : fUnits p.min ≤ fUnits p.max := (inRange_paramMeta i i.isLt).1.2.2
  refine ⟨exec_paramSet_nan i, fun hnum => ⟨_, exec_paramSet_number i hnum, rfl, s.storeCell_other i _, ?_, ?_, ?_⟩⟩ <;>
    rw [s.storeCell_latest i _ hi]
  · exact paramClamp_of_lt_min
  · exact fun h => paramClamp_of_max_lt (hle.trans h.le) h
  · exact paramClamp_of_mem

/-! ### `param_set_normalized` (45_parameters.md R246) -/

/-- The operand of PARAM_SETN clamped to 0..1. -/
def unitClamp (x : Word) : Word :=
  if fUnits x < 0 then 0 else if fUnits 0x3F800000 < fUnits x then 0x3F800000 else x

theorem fUnits_one : fUnits 0x3F800000 = 2 ^ 149 := by decide

theorem unitClamp_of_mem {x : Word} (hlo : 0 ≤ fUnits x) (hhi : fUnits x ≤ fUnits 0x3F800000) : unitClamp x = x := by
  rw [unitClamp, if_neg hlo.not_gt, if_neg hhi.not_gt]

theorem fUnits_unitClamp_mem (x : Word) : fUnits 0 ≤ fUnits (unitClamp x) ∧ fUnits (unitClamp x) ≤ fUnits 0x3F800000 := by
  have hzero : fUnits 0 = 0 := by decide
  have hone := fUnits_one
  unfold unitClamp
  split_ifs <;> omega

theorem paramDenormalize_eq (i : Nat) (x : Word) : paramDenormalize i x =
    fpAdd (paramMeta i).min (fpMul (unitClamp x) (fpSub (paramMeta i).max (paramMeta i).min)) := by
  have hzero : fUnits 0 = 0 := by decide
  simp only [paramDenormalize, unitClamp, fpLt_iff, hzero]

/-- The three operations do not decrease in the clamped operand where the width of the range is not negative. -/
theorem fUnits_scaled_mono (x c c' w : Word) (hw : 0 ≤ fUnits w) (h : fUnits c ≤ fUnits c') :
    fUnits (fpAdd x (fpMul c w)) ≤ fUnits (fpAdd x (fpMul c' w)) := by
  simp only [fUnits_fpAdd, fUnits_fpMul]
  exact rneUnits_mono (by decide) (Int.add_le_add_left
    (rneUnits_mono (by positivity) (mul_le_mul_of_nonneg_right h hw)) _)

/-- The ends of the operand's range, row by row of R240. -/
theorem scaled_ends_mem : ∀ i < 12,
    let p := paramMeta i
    let w := fpSub p.max p.min
    0 ≤ fUnits w ∧ fUnits p.min ≤ fUnits (fpAdd p.min (fpMul 0 w)) ∧
      fUnits (fpAdd p.min (fpMul 0x3F800000 w)) ≤ fUnits p.max := by
  decide +kernel

theorem inRange_paramDenormalize {i : Nat} (hi : i < 12) (x : Word) : InRange i (paramDenormalize i x) := by
  obtain ⟨hw, hlo, hhi⟩ := scaled_ends_mem i hi
  obtain ⟨hclo, hchi⟩ := fUnits_unitClamp_mem x
  refine ⟨fIsNaN_paramDenormalize i x, ?_, ?_⟩ <;> rw [paramDenormalize_eq]
  · exact hlo.trans (fUnits_scaled_mono _ _ _ _ hw hclo)
  · exact (fUnits_scaled_mono _ _ _ _ hw hchi).trans hhi

/-- The second clamp of PARAM_SETN changes nothing. -/
theorem paramClamp_paramDenormalize {i : Nat} (hi : i < 12) (x : Word) :
    paramClamp i (paramDenormalize i x) = paramDenormalize i x := by
  obtain ⟨-, hlo, hhi⟩ := inRange_paramDenormalize hi x
  exact paramClamp_of_mem hlo hhi

/-- Settles O18: the operations do not decrease in the operand, so that the range's ends bound every result. -/
theorem paramSetnUop : Obligations.ParamSetnUop := by
  unfold Obligations.ParamSetnUop
  refine ⟨fun s i hlen => ?_, fun x y _ _ => ⟨fpAdd_isRne32 x y, fpSub_isRne32 x y, fpMul_isRne32 x y⟩⟩
  have hi : i.val < s.cells.length := i.isLt.trans_eq hlen.symm
  have hvalue := paramDenormalize_eq i s.regs.a
  refine ⟨exec_paramSetn_nan i, fun hnum => ⟨_, exec_paramSetn_number i hnum, rfl, s.storeCell_other i _, ?_, ?_⟩⟩
  · rw [s.storeCell_latest i _ hi, paramClamp_paramDenormalize i.isLt]
    exact hvalue
  · exact hvalue ▸ inRange_paramDenormalize i.isLt s.regs.a

/-! ### `param_get_normalized` (45_parameters.md R248) -/

theorem natAbs_fUnits (y : Word) : (fUnits y).natAbs = fMag y := by
  rw [← Int.natCast_inj, Int.natCast_natAbs, fUnits_eq_signed_fMag, abs_signed]

section
variable {x y : Word} (hy : fUnits y ≠ 0)
include hy

theorem fMag_ne_zero : fMag y ≠ 0 := fun h => hy (by rw [fUnits_eq_signed_fMag, h, signed_zero])

/-- The quotient over the divisor's magnitude, with the divisor's sign moved to the dividend. -/
theorem signed_fpDiv : fUnits x * (fUnits y).sign * 2 ^ 149 = signed (fSign x != fSign y) (fMag x * 2 ^ 149) := by
  rw [fUnits_eq_signed_fMag x, fUnits_eq_signed_fMag y, signed_mul_sign _ _ _ (fMag_ne_zero hy), ← signed_mul_natCast,
    Nat.cast_pow, Nat.cast_ofNat]

theorem fpDiv_isRne32 : IsRne32 (fpDiv x y) (fUnits x * (fUnits y).sign * 2 ^ 149) (fUnits y).natAbs := by
  rw [signed_fpDiv hy, natAbs_fUnits y]
  exact isRne32_fPack_rneBits _ _ (Nat.pos_of_ne_zero (fMag_ne_zero hy))

theorem fUnits_fpDiv : fUnits (fpDiv x y) = rneUnits (fUnits x * (fUnits y).sign * 2 ^ 149) (fUnits y).natAbs := by
  rw [signed_fpDiv hy, natAbs_fUnits y]
  exact fUnits_fPack_rneBits (Nat.pos_of_ne_zero (fMag_ne_zero hy)) _ _

end

/-- Every CC number is a data byte (45_parameters.md R240). -/
theorem cc_paramMeta_le : ∀ i < 12, (paramMeta i).cc ≤ 127 := by decide

/-- Settles O19: the fields by selector, the record of any other, and the rounding of the division. -/
theorem paramReadUops : Obligations.ParamReadUops := by
  unfold Obligations.ParamReadUops
  refine ⟨fun s i => ?_, fun x y _ _ hy => fpDiv_isRne32 hy⟩
  have hread {x : Word} (sel : Word) (hx : s.paramField i sel.toNat = some x) (hsel : s.regs.b = sel) :
      exec (.paramGet i) s = .next (s.setR x) := exec_paramGet_field i (hsel ▸ hx)
  refine ⟨?_, hread 0 rfl, hread 1 rfl, hread 2 rfl, hread 3 rfl, fun hsel => ⟨hread 4 rfl hsel, cc_paramMeta_le i i.isLt⟩,
    exec_paramGet_illegal i, exec_paramGetn i⟩
  exact (List.getElem?_eq_getElem (l := paramTable) i.isLt).trans
    (congrArg some (List.getD_eq_getElem paramTable _ i.isLt).symm)

/-! ### The round trip (45_parameters.md R252) -/

/-- Up to 1.0 a value is far below the overflow. -/
theorem abs_fUnits_lt_of_mem {x : Word} (hlo : 0 ≤ fUnits x) (hhi : fUnits x ≤ fUnits 0x3F800000) :
    |fUnits x| < (2 ^ 25 - 1) * 2 ^ 252 := by
  rw [fUnits_one] at hhi
  rw [abs_of_nonneg hlo]
  omega

section
variable {i : Nat} (hmin : (paramMeta i).min = 0) (hmax : (paramMeta i).max = 0x3F800000) {x : Word} (hlo : 0 ≤ fUnits x)
  (hhi : fUnits x ≤ fUnits 0x3F800000)
include hmin hmax hlo hhi

/-- Adding 0 and multiplying by 1 are exact. -/
theorem fUnits_paramDenormalize_unit : fUnits (paramDenormalize i x) = fUnits x := by
  have hfin := abs_fUnits_lt_of_mem hlo hhi
  have hzero : fUnits 0 = 0 := by decide
  have hw : fUnits (fpSub 0x3F800000 0) = (2 ^ 149 : Nat) := by decide +kernel
  have hadd := rneUnits_mul_self (d := 1) (by decide) x hfin
  rw [Nat.cast_one, mul_one] at hadd
  rw [paramDenormalize_eq, hmin, hmax, unitClamp_of_mem hlo hhi, fUnits_fpAdd, fUnits_fpMul, hw,
    rneUnits_mul_self (by positivity) x hfin, hzero, zero_add, hadd]

/-- Subtracting 0 and dividing by 1 are exact. -/
theorem fUnits_paramNormalize_unit : fUnits (paramNormalize i x) = fUnits x := by
  have hfin := abs_fUnits_lt_of_mem hlo hhi
  have hzero : fUnits 0 = 0 := by decide
  have hw : fUnits (fpSub 0x3F800000 0) = (2 ^ 149 : Nat) := by decide +kernel
  have hsub := rneUnits_mul_self (d := 1) (by decide) x hfin
  have hdiv := rneUnits_mul_self (d := 2 ^ 149) (by positivity) x hfin
  rw [Nat.cast_one, mul_one] at hsub
  rw [paramNormalize, hmin, hmax, fUnits_fpDiv (by rw [hw]; decide), fUnits_fpSub, hzero, sub_zero, hsub, hw,
    Int.natAbs_natCast, Int.sign_eq_one_of_pos (by decide), mul_one]
  exact hdiv

end

theorem paramMeta_unit : ∀ i ∈ [2, 4, 5, 6, 7, 9, 10, 11], (paramMeta i).min = 0 ∧ (paramMeta i).max = 0x3F800000 := by
  decide

/-- Settles O20: with minimum 0 and width 1 neither view rounds. -/
theorem paramRoundTrip : Obligations.ParamRoundTrip := by
  unfold Obligations.ParamRoundTrip
  intro s t u i hlen hrow hnum hlo hhi ht hu
  obtain ⟨hmin, hmax⟩ := paramMeta_unit i hrow
  have hi : i.val < s.cells.length := i.isLt.trans_eq hlen.symm
  have hstored := fUnits_paramDenormalize_unit hmin hmax hlo hhi
  rw [exec_paramSetn_number i hnum] at ht
  cases ht
  rw [exec_paramGetn, s.storeCell_latest i _ hi, paramClamp_paramDenormalize i.isLt] at hu
  cases hu
  rw [State.setR_r, fUnits_paramNormalize_unit hmin hmax (hstored ▸ hlo) (hstored ▸ hhi), hstored]

end Sys2Proof.Machine
end

section
/-! Family 45_parameters: what AUDIO's SAMPLE makes of a cell (45_parameters.md R250, 49_polyphony.md R337). -/

namespace Sys2Proof.Machine

/-! ### The conversion (45_parameters.md R250) -/

theorem rha_mul_right (n : Int) (d : Nat) {k : Nat} (hk : 0 < k) : rha (n * k) (d * k) = rha n d := by
  have hquot : (2 * (n.natAbs * k) + d * k) / (2 * (d * k)) = (2 * n.natAbs + d) / (2 * d) := by
    rw [← mul_assoc, ← mul_assoc, ← add_mul, Nat.mul_div_mul_right _ _ hk]
  have hsign : 0 ≤ n * k ↔ 0 ≤ n := mul_nonneg_iff_of_pos_right (by exact_mod_cast hk)
  simp only [rha, Int.natAbs_mul, Int.natAbs_natCast, hquot, hsign]

theorem rha_mono {m n : Int} {d : Nat} (hd : 0 < d) (h : m ≤ n) : rha m d ≤ rha n d := by
  obtain rfl | hlt := eq_or_lt_of_le h
  · rfl
  · by_contra hgt
    have hm := (rha_spec m d hd).1
    have hn := (rha_spec n d hd).1
    have hstep : (rha n d + 1) * d ≤ rha m d * d := mul_le_mul_of_nonneg_right (by omega) d.cast_nonneg
    rw [add_mul, one_mul] at hstep
    rw [abs_eq_max_neg] at hm hn
    omega

/-- What cell `i` counts per unit of its value: samples per second, or Q16.15's ONE. -/
def sampleScale (c : Cfg) (i : Nat) : Nat := if i = 0 ∨ i = 1 ∨ i = 3 then c.sr else 32768

/-- Times and levels convert alike, each at its own scale. -/
theorem sampleValue_eq (c : Cfg) (i : Nat) (w : Word) :
    sampleValue c i w = wrap32 (rha (fUnits w * sampleScale c i) (2 ^ 149)) := by
  have hfixed : ffromfloat w = wrap32 (rha (fUnits w * (32768 : Nat)) (2 ^ 149)) := by
    rw [ffromfloat, ← rha_mul_right _ _ (by decide : 0 < 32768), show 2 ^ 134 * 32768 = 2 ^ 149 by decide]
  unfold sampleValue sampleScale
  split
  case h_4 h0 h1 h3 => rw [if_neg (not_or.mpr ⟨h0, not_or.mpr ⟨h1, h3⟩⟩), hfixed]
  all_goals rfl

/-- The conversion is the integer nearest to the exact product, halves away from zero. -/
theorem sampleValue_spec (c : Cfg) (i : Nat) (w : Word) :
    let n := fUnits w * sampleScale c i
    ∃ q : Int, sampleValue c i w = BitVec.ofInt 32 q ∧ 2 * |n - q * 2 ^ 149| ≤ 2 ^ 149 ∧
      (2 * |n - q * 2 ^ 149| = 2 ^ 149 → |n| < |q * 2 ^ 149|) := by
  have hspec := rha_spec (fUnits w * sampleScale c i) (2 ^ 149) (by positivity)
  rw [Nat.cast_pow, Nat.cast_ofNat] at hspec
  exact ⟨_, sampleValue_eq c i w, hspec⟩

/-- The rounded ends of row `i` of R240 at scale `k` lie between two 32-bit integers. -/
def EndsWithin (i k : Nat) (lo hi : Int) : Prop :=
  (-2 ^ 31 ≤ lo ∧ hi < 2 ^ 31) ∧
    lo ≤ rha (fUnits (paramMeta i).min * k) (2 ^ 149) ∧ rha (fUnits (paramMeta i).max * k) (2 ^ 149) ≤ hi

/-- A value in range converts to a count between the rounded ends of its range. -/
theorem toInt_sampleValue_mem {c : Cfg} {i k : Nat} {w : Word} {lo hi : Int} (hw : InRange i w) (hk : sampleScale c i = k)
    (hends : EndsWithin i k lo hi) : lo ≤ (sampleValue c i w).toInt ∧ (sampleValue c i w).toInt ≤ hi := by
  obtain ⟨-, hmin, hmax⟩ := hw
  obtain ⟨⟨hlo32, hhi32⟩, hlo, hhi⟩ := hends
  have hscale : (0 : Int) ≤ k := Int.natCast_nonneg _
  have hge := hlo.trans (rha_mono (by positivity) (mul_le_mul_of_nonneg_right hmin hscale))
  have hle := (rha_mono (by positivity) (mul_le_mul_of_nonneg_right hmax hscale)).trans hhi
  rw [sampleValue_eq, hk, wrap32, BitVec.toInt_ofInt_eq_self (by decide) (hlo32.trans hge) (hle.trans_lt hhi32)]
  exact ⟨hge, hle⟩

theorem endsWithin_levels : ∀ i ∈ [2, 4, 5, 6, 7, 9, 10, 11], EndsWithin i 32768 0 32768 := by
  unfold EndsWithin
  decide +kernel

theorem endsWithin_width : EndsWithin 8 32768 1638 31130 := by
  unfold EndsWithin
  decide +kernel

theorem endsWithin_times_44100 : EndsWithin 0 44100 44 110250 ∧ EndsWithin 1 44100 132 88200 ∧
    EndsWithin 3 44100 441 220500 := by
  unfold EndsWithin
  decide +kernel

theorem endsWithin_times_22050 : EndsWithin 0 22050 22 55125 ∧ EndsWithin 1 22050 66 44100 ∧
    EndsWithin 3 22050 220 110250 := by
  unfold EndsWithin
  decide +kernel

/-! ### What one set_target of AUDIO writes (44_smoother.md R221) -/

theorem State.sm_setVoice_other (s : State) {v u : Nat} {k j : VoiceSm} (m : Smoother)
    (h : SmId.voice v k ≠ .voice u j) : (s.setVoice v ((s.voice v).setSm k m)).sm (.voice u j) = s.sm (.voice u j) := by
  obtain hvu | rfl := ne_or_eq v u
  · exact congrArg (·.getSm j) (s.voice_setVoice_other v u _ hvu)
  · have hkj : k ≠ j := fun hk => h (congrArg _ hk)
    obtain hlt | hge := lt_or_ge v s.voices.length
    · simp only [State.sm, s.voice_setVoice_self v _ hlt, Voice.getSm_setSm_other _ _ _ _ hkj]
    · rw [State.setVoice, List.set_eq_of_length_le hge]

/-- Writing one smoother leaves every other alone. -/
theorem State.sm_setSm_other (s : State) {id j : SmId} (m : Smoother) (h : id ≠ j) : (s.setSm id m).sm j = s.sm j := by
  cases id with
  | global g =>
    cases j with
    | global g' => exact Mix.get_set_other _ _ _ _ fun hg => h (congrArg _ hg)
    | voice u k => rfl
  | voice v k =>
    cases j with
    | global g' => rfl
    | voice u j => exact s.sm_setVoice_other m h

/-- W1 and W2 of each smoother of `ids`, with no step of another agent between. -/
def State.sendTargets (s : State) (x : Word) (ids : List SmId) : State := (setTargetOps x ids).foldl State.runOp s

theorem State.sendTargets_cons {s : State} {id : SmId} (x : Word) (ids : List SmId)
    (hid : ∀ v k, id = .voice v k → v < s.voices.length) :
    s.sendTargets x (id :: ids) = (s.setSm id ((s.sm id).setTarget x)).sendTargets x ids := by
  have hwrites : (s.setSm id ((s.sm id).storePending x)).setSm id
      ((s.setSm id ((s.sm id).storePending x)).sm id).storeFlag = s.setSm id ((s.sm id).setTarget x) := by
    rw [s.sm_setSm_self id _ hid, State.setSm_setSm]
    rfl
  rw [← hwrites]
  rfl

/-- All that the set_targets of smoothers that exist do: the target of each waits in its mailbox, and nothing else changes. -/
theorem State.sendTargets_spec (s : State) (x : Word) (ids : List SmId)
    (hids : ∀ v k, .voice v k ∈ ids → v < s.voices.length) :
    (∃ m vs, s.sendTargets x ids = { s with mix := m, voices := vs }) ∧ (s.sendTargets x ids).audioView = s.audioView ∧
      ∀ j, (s.sendTargets x ids).sm j = if j ∈ ids then (s.sm j).setTarget x else s.sm j := by
  induction ids generalizing s with
  | nil => exact ⟨⟨s.mix, s.voices, rfl⟩, rfl, fun _ => rfl⟩
  | cons id ids ih =>
    have hid (v : Nat) (k : VoiceSm) (h : id = .voice v k) : v < s.voices.length := hids v k (h ▸ List.mem_cons_self)
    have hself : (s.setSm id ((s.sm id).setTarget x)).sm id = (s.sm id).setTarget x := s.sm_setSm_self id _ hid
    obtain ⟨⟨m, vs, hframe⟩, hview, hsm⟩ := ih (s.setSm id ((s.sm id).setTarget x)) fun v k h => by
      rw [State.setSm_length]
      exact hids v k (List.mem_cons_of_mem id h)
    rw [s.sendTargets_cons x ids hid]
    refine ⟨⟨m, vs, ?_⟩, hview.trans (s.audioView_setSm id rfl), fun j => ?_⟩
    · obtain ⟨m', vs', hfirst⟩ := s.setSm_eq id ((s.sm id).setTarget x)
      rw [hframe, hfirst]
    · rw [hsm]
      obtain rfl | hne := eq_or_ne j id
      · rw [hself, if_pos List.mem_cons_self]
        exact ite_self _
      · rw [s.sm_setSm_other _ hne.symm]
        exact if_congr (by simp [hne]) rfl rfl

/-! ### SAMPLE's unit for one cell (49_polyphony.md R337) -/

theorem Sampled.set_get_self (p : Sampled) (i : Nat) (hi : i < 12) : p.set i (p.get i) = p := by
  interval_cases i <;> rfl

theorem lt_of_voice_mem_sampleTargets {c : Cfg} {i v : Nat} {k : VoiceSm} (h : .voice v k ∈ sampleTargets c i) :
    v < c.nvoices := by
  unfold sampleTargets at h
  split at h
  case h_1 | h_2 | h_3 | h_4 =>
    obtain ⟨u, hu, hid⟩ := List.mem_map.mp h
    cases hid
    exact List.mem_range.mp hu
  all_goals simp at h

theorem simple_setTargetOps (x : Word) (ids : List SmId) : ∀ op ∈ setTargetOps x ids, op.simple = true := by
  intro op hop
  simp only [setTargetOps, List.mem_flatMap, List.mem_cons, List.not_mem_nil, or_false] at hop
  obtain ⟨id, -, rfl | rfl⟩ := hop <;> rfl

/-- AUDIO's set_targets, all of them, one after another. -/
theorem AudioReaches.sendTargets {s : State} {x : Word} {ids : List SmId} {ops : List AudioOp} (hb : s.seq.busy = true)
    (htodo : s.work.todo = setTargetOps x ids ++ ops) : AudioReaches s ((s.withTodo ops).sendTargets x ids) := by
  have hsimple := simple_setTargetOps x ids
  rw [State.sendTargets, foldl_runOp_withTodo _ s ops hsimple]
  exact .simples hb hsimple htodo

/-- The smoothers to which SAMPLE sends cell `i`'s value: those it feeds, where the value is new. -/
def State.receivers (s : State) (i : Nat) (x : Word) : List SmId := if x = s.sent.get i then [] else sampleTargets s.cfg i

theorem State.mem_receivers {s : State} {i : Nat} {x : Word} {j : SmId} :
    j ∈ s.receivers i x ↔ j ∈ sampleTargets s.cfg i ∧ x ≠ s.sent.get i := by
  rw [State.receivers]
  split_ifs with hsent <;> simp [hsent]

/-- SAMPLE's unit for one cell: its register takes the value, and the value is sent where it is new. -/
theorem AudioReaches.convertCell {s : State} {i : Nat} {ops : List AudioOp} (hi : i < 12) (hb : s.seq.busy = true)
    (htodo : s.work.todo = .conv i :: ops) {x : Word} (hx : x = sampleValue s.cfg i (s.work.latch.getD i 0)) :
    AudioReaches s ({ s.withTodo ops with sent := s.sent.set i x }.sendTargets x (s.receivers i x)) := by
  have hunit : AudioReaches s ((s.withTodo ops).convertCell i) := .unit hb htodo nofun
  have hconv : (s.withTodo ops).convertCell i = if x = s.sent.get i then s.withTodo ops else
      { s.withTodo ops with sent := s.sent.set i x }.doFirst (setTargetOps x (sampleTargets s.cfg i)) := by
    rw [hx]
    rfl
  rw [hconv] at hunit
  unfold State.receivers
  split_ifs at hunit ⊢ with hsent
  · rw [hsent, s.sent.set_get_self i hi]
    exact hunit
  · exact hunit.trans (.sendTargets hb rfl) rfl

/-- The whole effect of that unit. -/
theorem audioRun_conv {s : State} {i : Nat} {ops : List AudioOp} (hi : i < 12) (hb : s.seq.busy = true)
    (hbank : s.voices.length = s.cfg.nvoices) (htodo : s.work.todo = .conv i :: ops) {x : Word}
    (hx : x = sampleValue s.cfg i (s.work.latch.getD i 0)) : ∃ n t, audioRun n s = .next t ∧ t.sent = s.sent.set i x ∧
    t.voices.map Voice.noMailboxes = s.voices.map Voice.noMailboxes ∧
    (∀ j, t.sm j = if j ∈ s.receivers i x then (s.sm j).setTarget x else s.sm j) ∧
    t = { s with
      sent := t.sent, mix := t.mix, work := { s.work with todo := ops }, port := { s.port with draws := s.port.draws + n }
      voices := t.voices } := by
  obtain ⟨n, hrun, -⟩ := (AudioReaches.convertCell hi hb htodo hx).run
  have hids (v : Nat) (k : VoiceSm) (h : .voice v k ∈ s.receivers i x) : v < s.voices.length :=
    hbank ▸ lt_of_voice_mem_sampleTargets (State.mem_receivers.mp h).1
  obtain ⟨⟨m, vs, hframe⟩, hview, hsm⟩ :=
    State.sendTargets_spec { s.withTodo ops with sent := s.sent.set i x } x (s.receivers i x) hids
  rw [hframe] at hrun hview hsm
  exact ⟨n, _, hrun, rfl, congrArg AudioView.voices hview, fun j => (State.sm_withPort _ _ j).trans (hsm j), rfl⟩

/-- Settles O21: `rha_spec` is the conversion, `rha` does not decrease between the ends of a range, and SAMPLE's unit is the
register's update followed by the set_targets. -/
theorem sampledRanges : Obligations.SampledRanges := by
  unfold Obligations.SampledRanges
  refine ⟨fun c i w _ _ => ?_, fun c i w _ hw => ⟨fun hi => ?_, ?_, fun hsr => ?_, fun hsr => ?_⟩, ?_⟩
  · have hscale : (if i = 0 ∨ i = 1 ∨ i = 3 then (c.sr : Int) else 32768) = sampleScale c i := by
      rw [sampleScale, Nat.cast_ite, Nat.cast_ofNat]
    rw [hscale]
    exact sampleValue_spec c i w
  · exact toInt_sampleValue_mem hw (if_neg (by omega)) (endsWithin_levels i (by simpa using hi))
  · rintro rfl
    exact toInt_sampleValue_mem hw rfl endsWithin_width
  · obtain ⟨hatt, hdec, hrel⟩ := endsWithin_times_44100
    refine ⟨?_, ?_, ?_⟩ <;> rintro rfl
    exacts [toInt_sampleValue_mem hw hsr hatt, toInt_sampleValue_mem hw hsr hdec, toInt_sampleValue_mem hw hsr hrel]
  · obtain ⟨hatt, hdec, hrel⟩ := endsWithin_times_22050
    refine ⟨?_, ?_, ?_⟩ <;> rintro rfl
    exacts [toInt_sampleValue_mem hw hsr hatt, toInt_sampleValue_mem hw hsr hdec, toInt_sampleValue_mem hw hsr hrel]
  · intro s i ops hi hb hbank htodo x feeds
    have hfeeds (id : SmId) : feeds id ↔ id ∈ sampleTargets s.cfg i := by
      unfold feeds
      clear feeds x
      interval_cases i <;> simp [sampleTargets, eq_comm]
    obtain ⟨n, t, hrun, hsent, hvoices, hsm, hframe⟩ := audioRun_conv hi hb hbank htodo (x := x) rfl
    refine ⟨n, t, hrun, hsent, hsent ▸ s.sent.get_set_self i x hi, hvoices, fun id hid hnew => ?_, fun id hid => ?_, hframe⟩
    · rw [hsm, if_pos (State.mem_receivers.mpr ⟨(hfeeds id).mp hid, hnew⟩)]
      rfl
    · rw [hsm, if_neg]
      rw [State.mem_receivers, ← hfeeds]
      exact fun ⟨hfed, hnew⟩ => hid.elim (absurd hfed) hnew

end Sys2Proof.Machine
end

section
/-! Family 46_envelope: the envelope's events, reads and time counts, and the tick before and at the end of each phase. -/

namespace Sys2Proof.Machine

/-! ### The events (46_envelope.md R264, R265) -/

section
variable {e : Env}

theorem Env.noteOn_of_stealFade (h : e.state = .stealFade) : e.noteOn = e := if_pos h

theorem Env.noteOn_of_level_pos (h : e.state ≠ .stealFade) (hlevel : 0 < e.level.toInt) :
    e.noteOn = { e with stealFadeStart := e.level, state := .stealFade, counter := 0 } := by
  rw [noteOn, if_neg h, if_pos hlevel]

theorem Env.noteOn_of_level_nonpos (h : e.state ≠ .stealFade) (hlevel : e.level.toInt ≤ 0) :
    e.noteOn = { e with state := .attack, counter := 0, level := 0 } := by
  rw [noteOn, if_neg h, if_neg hlevel.not_gt]

theorem Env.noteOff_of_idle (h : e.state = .idle) : e.noteOff = e := if_pos h

theorem Env.noteOff_of_ne_idle (h : e.state ≠ .idle) :
    e.noteOff = { e with releaseStart := e.level, state := .release, counter := 0 } := if_neg h

end

/-! ### The UOPs (46_envelope.md R270 to R274) -/

section
variable {s : State} {v : Nat} (hidle : s.seq.busy = false) (hv : v < s.cfg.nvoices)
include hidle hv

theorem exec_envNoteOn :
    exec (.envNoteOn v) s = .next (s.setVoice v { s.voice v with env := (s.voice v).env.noteOn }) := by
  apply State.uop_admitted (voiceAdmitted_of_lt hv) hidle

theorem exec_envNoteOff :
    exec (.envNoteOff v) s = .next (s.setVoice v { s.voice v with env := (s.voice v).env.noteOff }) := by
  apply State.uop_admitted (voiceAdmitted_of_lt hv) hidle

theorem exec_envTick :
    exec (.envTick v) s = .next ((s.setVoice v (s.voice v).envTick).setR (s.voice v).envTick.env.level) := by
  apply State.uop_admitted (voiceAdmitted_of_lt hv) hidle

theorem exec_envLevel : exec (.envLevel v) s = .next (s.setR (s.voice v).env.level) := by
  apply State.uop_admitted (voiceAdmitted_of_lt hv) hidle

theorem exec_envRead_field {x : Word} (hsel : (s.voice v).env.field s.regs.b.toNat = some x) :
    exec (.envRead v) s = .next (s.setR x) := by
  change execEnvRead v s = _
  rw [execEnvRead, State.uop_admitted (voiceAdmitted_of_lt hv) hidle, hsel]

theorem exec_envRead_illegal (hsel : 10 ≤ s.regs.b.toNat) :
    exec (.envRead v) s = .next (s.raise .illegal (wordTop (encode (.envRead v)))) := by
  obtain ⟨n, hn⟩ := Nat.exists_eq_add_of_le' hsel
  change execEnvRead v s = _
  rw [execEnvRead, State.uop_admitted (voiceAdmitted_of_lt hv) hidle, hn, encode, wordTop_uopWord]
  rfl

end

/-- Settles O22: the two events, by the state and the level's sign. -/
theorem envEventUops : Obligations.EnvEventUops := by
  unfold Obligations.EnvEventUops
  intro s v hidle hv x e
  have hon : exec (.envNoteOn v) s = .next (s.setVoice v { x with env := e.noteOn }) := exec_envNoteOn hidle hv
  have hoff : exec (.envNoteOff v) s = .next (s.setVoice v { x with env := e.noteOff }) := exec_envNoteOff hidle hv
  refine ⟨fun hst => ?_, fun hst hlevel => ?_, fun hst hlevel => ?_, fun hst => ?_, fun hst => ?_⟩
  · rw [hon, Env.noteOn_of_stealFade hst]
  · rw [hon, Env.noteOn_of_level_pos hst hlevel]
  · rw [hon, Env.noteOn_of_level_nonpos hst hlevel]
  · rw [hoff, Env.noteOff_of_idle hst]
  · rw [hoff, Env.noteOff_of_ne_idle hst]

/-- Settles O25: the fields by selector, and the record of any other. -/
theorem envReadUops : Obligations.EnvReadUops := by
  unfold Obligations.EnvReadUops
  intro s v hidle hv e code
  have hread {x : Word} (sel : Word) (hx : e.field sel.toNat = some x) (hsel : s.regs.b = sel) :
      exec (.envRead v) s = .next (s.setR x) := exec_envRead_field hidle hv (hsel ▸ hx)
  have hcode : BitVec.ofNat 32 e.state.code = code := by
    unfold code
    cases e.state <;> rfl
  exact ⟨exec_envLevel hidle hv, hread 0 (congrArg some hcode), hread 1 rfl, hread 2 rfl, hread 3 rfl, hread 4 rfl,
    hread 5 rfl, hread 6 rfl, hread 7 rfl, hread 8 rfl, hread 9 rfl, exec_envRead_illegal hidle hv⟩

/-! ### A new time count (46_envelope.md R267, R268) -/

section
variable {e : Env} {f : TimeField} {n : Nat}

theorem Env.updateTime_of_eq (h : n = (e.timeOf f).toNat) : e.updateTime f n = e := if_pos h

theorem Env.updateTime_of_not_past (hne : n ≠ (e.timeOf f).toNat)
    (h : ¬(e.state = f.phase ∧ 0 < n ∧ 32768 < e.counter.toNat * 2 ^ 15 / n)) :
    e.updateTime f n = e.setTime f (BitVec.ofNat 32 n) := by
  rw [updateTime, if_neg hne, if_neg h]

theorem Env.updateTime_of_past (hne : n ≠ (e.timeOf f).toNat) (hphase : e.state = f.phase)
    (h : 0 < n ∧ 32768 < e.counter.toNat * 2 ^ 15 / n) {q : Int} (hq : e.inverse f n = q) :
    e.updateTime f n =
      { e with counter := BitVec.ofInt 32 (max 0 (min (n : Int) q)) }.setTime f (BitVec.ofNat 32 n) := by
  rw [updateTime, if_neg hne, if_pos ⟨hphase, h⟩, hq, iclamp]

end

/-- A quotient that is only taken for a positive divisor may be rounded down. -/
theorem ite_ediv_eq_ite_fdiv (n a d : Int) :
    (if d ≤ 0 then n else a / d) = if d ≤ 0 then n else Int.fdiv a d := by
  split_ifs with hd
  · rfl
  · rw [Int.fdiv_eq_ediv_of_nonneg _ (by omega)]

/-- Settles O24: the three cases of `update_time` for each of its fields. -/
theorem envUpdateTime : Obligations.EnvUpdateTime := by
  unfold Obligations.EnvUpdateTime
  intro e n _ past l at'
  refine ⟨Env.updateTime_of_eq (f := .attack), Env.updateTime_of_eq (f := .decay), Env.updateTime_of_eq (f := .release),
    Env.updateTime_of_not_past (f := .attack), Env.updateTime_of_not_past (f := .decay),
    Env.updateTime_of_not_past (f := .release), fun hne hst hpast => ?_, fun hne hst hpast => ?_, fun hne hst hpast => ?_⟩
  · exact Env.updateTime_of_past (f := .attack) hne hst hpast (Int.fdiv_eq_ediv_of_nonneg _ (by decide)).symm
  · exact Env.updateTime_of_past (f := .decay) hne hst hpast (ite_ediv_eq_ite_fdiv _ _ _)
  · exact Env.updateTime_of_past (f := .release) hne hst hpast (ite_ediv_eq_ite_fdiv _ _ _)

/-! ### The tick (46_envelope.md R266, R269) -/

/-- The envelope after steps 1 and 2 of the tick. -/
def Voice.latchedEnv (x : Voice) : Env :=
  ((({ x.env with sustainLevel := x.sus.next.current } : Env).updateTime .attack
    x.att.next.current.toInt.toNat).updateTime .decay x.dec.next.current.toInt.toNat).updateTime .release
    x.rel.next.current.toInt.toNat

theorem Voice.latchSustain_nextSm (x : Voice) : (x.nextSm .sus).latchSustain =
    { x with sus := x.sus.next, env := { x.env with sustainLevel := x.sus.next.current } } := rfl

theorem Voice.latchTime_nextSm_att (x : Voice) : (x.nextSm .att).latchTime .attack =
    { x with att := x.att.next, env := x.env.updateTime .attack x.att.next.current.toInt.toNat } := rfl

theorem Voice.latchTime_nextSm_dec (x : Voice) : (x.nextSm .dec).latchTime .decay =
    { x with dec := x.dec.next, env := x.env.updateTime .decay x.dec.next.current.toInt.toNat } := rfl

theorem Voice.latchTime_nextSm_rel (x : Voice) : (x.nextSm .rel).latchTime .release =
    { x with rel := x.rel.next, env := x.env.updateTime .release x.rel.next.current.toInt.toNat } := rfl

theorem Voice.envTick_eq (x : Voice) : x.envTick = { x with
    sus := x.sus.next, att := x.att.next, dec := x.dec.next, rel := x.rel.next
    env := x.latchedEnv.stateMachine x.sus.next.target } := by
  simp only [envTick, latchSustain_nextSm, latchTime_nextSm_att, latchTime_nextSm_dec, latchTime_nextSm_rel, tickState,
    latchedEnv]

/-- The state has a phase with a length (46_envelope.md R260). -/
def Env.timed (e : Env) : Prop := e.state ≠ .idle ∧ e.state ≠ .sustain

theorem Env.timed.of_state {e : Env} {st : EnvState} (h : e.state = st)
    (hst : st ≠ .idle ∧ st ≠ .sustain := by decide) : e.timed := by
  rwa [timed, h]

section
variable {e : Env} (target : Word)

theorem Env.stateMachine_of_idle (h : e.state = .idle) : e.stateMachine target = { e with level := 0 } := by
  rw [stateMachine, h]

theorem Env.stateMachine_of_sustain (h : e.state = .sustain) :
    e.stateMachine target = { e with level := if target = 0 then 0 else e.sustainLevel } := by
  rw [stateMachine, h]

theorem Env.stateMachine_of_timed (h : e.timed) :
    e.stateMachine target = if e.phaseLength ≤ e.counter.toNat + 1 then e.transition
      else { e with
        counter := BitVec.ofNat 32 (e.counter.toNat + 1)
        level := e.levelOf (e.counter.toNat + 1) e.phaseLength } := by
  obtain ⟨hidle, hsustain⟩ := h
  unfold stateMachine
  split
  case h_1 hst => exact absurd hst hidle
  case h_2 hst => exact absurd hst hsustain
  all_goals rfl

variable {T : Nat}

theorem Env.stateMachine_at_end (h : e.timed) (hT : e.phaseLength = T) (hc : T ≤ e.counter.toNat + 1) :
    e.stateMachine target = e.transition := by
  rw [stateMachine_of_timed target h, hT, if_pos hc]

theorem Env.stateMachine_before_end (h : e.timed) (hT : e.phaseLength = T) (hc : e.counter.toNat + 1 < T) :
    e.stateMachine target = { e with
      counter := BitVec.ofNat 32 (e.counter.toNat + 1), level := e.levelOf (e.counter.toNat + 1) T } := by
  rw [stateMachine_of_timed target h, hT, if_neg hc.not_ge]

end

/-! Each timed state's length, level and end (46_envelope.md R260, R262, R266). -/

section
variable {e : Env}

theorem Env.phaseLength_of_attack (h : e.state = .attack) : e.phaseLength = e.attackSamples.toNat := by
  rw [phaseLength, h]

theorem Env.phaseLength_of_decay (h : e.state = .decay) : e.phaseLength = e.decaySamples.toNat := by
  rw [phaseLength, h]

theorem Env.phaseLength_of_release (h : e.state = .release) : e.phaseLength = e.releaseSamples.toNat := by
  rw [phaseLength, h]

theorem Env.phaseLength_of_stealFade (h : e.state = .stealFade) : e.phaseLength = e.stealFadeSamples.toNat := by
  rw [phaseLength, h]

theorem Env.transition_of_attack (h : e.state = .attack) :
    e.transition = { e with counter := 0, state := .decay, level := fxOne } := by
  rw [transition, h]

theorem Env.transition_of_decay (h : e.state = .decay) :
    e.transition = { e with counter := 0, state := .sustain, level := e.sustainLevel } := by
  rw [transition, h]

theorem Env.transition_of_release (h : e.state = .release) :
    e.transition = { e with counter := 0, state := .idle, level := 0 } := by
  rw [transition, h]

theorem Env.transition_of_stealFade (h : e.state = .stealFade) :
    e.transition = { e with counter := 0, state := .attack, level := 0 } := by
  rw [transition, h]

variable (c T : Nat)

theorem Env.levelOf_of_attack (h : e.state = .attack) : e.levelOf c T = phaseFrac c T := by
  rw [levelOf, h]

theorem Env.levelOf_of_decay (h : e.state = .decay) :
    e.levelOf c T = fsub fxOne (fmul (phaseFrac c T) (fsub fxOne e.sustainLevel)) := by
  rw [levelOf, h]

theorem Env.levelOf_of_release (h : e.state = .release) :
    e.levelOf c T = fmul e.releaseStart (fsub fxOne (phaseFrac c T)) := by
  rw [levelOf, h]

theorem Env.levelOf_of_stealFade (h : e.state = .stealFade) :
    e.levelOf c T = fmul e.stealFadeStart (fsub fxOne (phaseFrac c T)) := by
  rw [levelOf, h]

end

/-- `p(c, T)` inside a phase (46_envelope.md R261). -/
theorem phaseFrac_of_lt {c T : Nat} (h : c < T) : phaseFrac c T = BitVec.ofNat 32 (min 32768 (c * 2 ^ 15 / T)) :=
  if_neg (by omega)

/-- Settles O23: the state machine's branches in the six states, on the envelope that steps 1 and 2 leave. -/
theorem envTickUop : Obligations.EnvTickUop := by
  unfold Obligations.EnvTickUop
  intro s v hidle hv x e c
  have htick := exec_envTick hidle hv
  rw [Voice.envTick_eq] at htick
  refine ⟨e.stateMachine x.sus.next.target, htick, Env.stateMachine_of_idle _, Env.stateMachine_of_sustain _,
    fun hst hc => ?_, fun hst hc => ?_, fun hst hc => ?_, fun hst hc => ?_,
    fun hst hc => ?_, fun hst hc => ?_, fun hst hc => ?_, fun hst hc => ?_⟩
  · exact (e.stateMachine_at_end _ (.of_state hst) (Env.phaseLength_of_attack hst) hc).trans (Env.transition_of_attack hst)
  · exact (e.stateMachine_at_end _ (.of_state hst) (Env.phaseLength_of_decay hst) hc).trans (Env.transition_of_decay hst)
  · exact (e.stateMachine_at_end _ (.of_state hst) (Env.phaseLength_of_release hst) hc).trans (Env.transition_of_release hst)
  · exact (e.stateMachine_at_end _ (.of_state hst) (Env.phaseLength_of_stealFade hst) hc).trans
      (Env.transition_of_stealFade hst)
  · rw [e.stateMachine_before_end _ (.of_state hst) (Env.phaseLength_of_attack hst) hc, Env.levelOf_of_attack _ _ hst,
      phaseFrac_of_lt hc]
  · rw [e.stateMachine_before_end _ (.of_state hst) (Env.phaseLength_of_decay hst) hc, Env.levelOf_of_decay _ _ hst,
      phaseFrac_of_lt hc]
    rfl
  · rw [e.stateMachine_before_end _ (.of_state hst) (Env.phaseLength_of_release hst) hc, Env.levelOf_of_release _ _ hst,
      phaseFrac_of_lt hc]
    rfl
  · rw [e.stateMachine_before_end _ (.of_state hst) (Env.phaseLength_of_stealFade hst) hc, Env.levelOf_of_stealFade _ _ hst,
      phaseFrac_of_lt hc]
    rfl

end Sys2Proof.Machine
end

section
/-! Family 46_envelope, the course of a timed phase: with the envelope's smoothers at rest a tick is the state machine alone, and a
phase of length T is T of its ticks (46_envelope.md R275). -/

namespace Sys2Proof.Machine

/-! ### The tick with the smoothers at rest -/

theorem Smoother.next_of_atRest {m : Smoother} (h : m.atRest) : m.next = m := by
  obtain ⟨hremaining, hnew, -⟩ := h
  rw [next_of_not_waiting hnew, advance_of_remaining_zero hremaining]

/-- A word that reads as no negative number reads the same both ways. -/
theorem toNat_toInt_of_nonneg {w : Word} (h : 0 ≤ w.toInt) : w.toInt.toNat = w.toNat :=
  BitVec.toNat_toInt_of_msb w (by rw [BitVec.msb_eq_toInt, decide_eq_false h.not_gt])

theorem Voice.latchedEnv_of_atRest {x : Voice} (h : x.envAtRest) : x.latchedEnv = x.env := by
  obtain ⟨hsus, hatt, hdec, hrel, hlevel, hattack, hdecay, hrelease, hatt0, hdec0, hrel0⟩ := h
  have hlatched : ({ x.env with sustainLevel := x.sus.current } : Env) = x.env := by rw [hlevel]
  rw [latchedEnv, Smoother.next_of_atRest hsus, Smoother.next_of_atRest hatt, Smoother.next_of_atRest hdec,
    Smoother.next_of_atRest hrel, hlatched, toNat_toInt_of_nonneg hatt0, toNat_toInt_of_nonneg hdec0,
    toNat_toInt_of_nonneg hrel0, Env.updateTime_of_eq (f := .attack) (congrArg BitVec.toNat hattack),
    Env.updateTime_of_eq (f := .decay) (congrArg BitVec.toNat hdecay),
    Env.updateTime_of_eq (f := .release) (congrArg BitVec.toNat hrelease)]

theorem Voice.envTick_of_atRest {x : Voice} (h : x.envAtRest) :
    x.envTick = { x with env := x.env.stateMachine x.sus.target } := by
  have ⟨hsus, hatt, hdec, hrel, _⟩ := h
  rw [envTick_eq, latchedEnv_of_atRest h, Smoother.next_of_atRest hsus, Smoother.next_of_atRest hatt,
    Smoother.next_of_atRest hdec, Smoother.next_of_atRest hrel]

/-! ### Ticks one after another -/

theorem Voice.ticks_add (m n : Nat) (x : Voice) : ticks (m + n) x = ticks n (ticks m x) := by
  induction m generalizing x with
  | zero => rw [Nat.zero_add, ticks]
  | succ m ih => rw [Nat.add_right_comm, ticks, ticks, ih]

theorem Voice.ticks_succ (n : Nat) (x : Voice) : ticks (n + 1) x = (ticks n x).envTick := ticks_add n 1 x

/-! ### One timed phase -/

/-- The envelope `k` ticks into its phase. -/
def Env.during (e : Env) (k : Nat) : Env :=
  { e with counter := BitVec.ofNat 32 k, level := e.levelOf k e.phaseLength }

/-- The envelope is at the start of a timed phase, at the level the phase starts from. -/
def Env.begins (e : Env) : Prop := e.timed ∧ e.during 0 = e

theorem Env.phaseLength_lt (e : Env) : e.phaseLength < 2 ^ 32 := by
  unfold phaseLength
  split
  case h_5 | h_6 => decide
  all_goals exact BitVec.isLt _

theorem Env.levelOf_during {e : Env} (h : e.timed) (k c T : Nat) : (e.during k).levelOf c T = e.levelOf c T := by
  obtain ⟨hidle, hsustain⟩ := h
  unfold levelOf
  cases hst : e.state with
  | idle => exact absurd hst hidle
  | sustain => exact absurd hst hsustain
  | _ => simp only [during, hst]

theorem Env.transition_during {e : Env} (h : e.timed) (k : Nat) : (e.during k).transition = e.transition := by
  obtain ⟨hidle, hsustain⟩ := h
  unfold transition
  cases hst : e.state with
  | idle => exact absurd hst hidle
  | sustain => exact absurd hst hsustain
  | _ => simp only [during, hst]

section
variable {e : Env} (h : e.timed) {k : Nat} (target : Word)
include h

theorem Env.stateMachine_during (hk : k + 1 < e.phaseLength) : (e.during k).stateMachine target = e.during (k + 1) := by
  have hlen := e.phaseLength_lt
  have hcounter : (e.during k).counter.toNat = k := Nat.mod_eq_of_lt (by omega)
  rw [(e.during k).stateMachine_before_end (T := e.phaseLength) target h rfl (by rwa [hcounter]), hcounter, levelOf_during h]
  rfl

theorem Env.stateMachine_during_last (hk : k + 1 = e.phaseLength) : (e.during k).stateMachine target = e.transition := by
  have hlen := e.phaseLength_lt
  have hcounter : (e.during k).counter.toNat = k := Nat.mod_eq_of_lt (by omega)
  rw [(e.during k).stateMachine_at_end (T := e.phaseLength) target h rfl (by rw [hcounter, hk]), transition_during h]

end

section
variable {x : Voice} (hrest : x.envAtRest) (hbegin : x.env.begins)
include hrest hbegin

theorem Voice.ticks_of_begins {k : Nat} (hk : k < x.env.phaseLength) :
    ticks k x = { x with env := x.env.during k } := by
  induction k with
  | zero => rw [ticks, hbegin.2]
  | succ k ih =>
    rw [ticks_succ, ih (by omega), envTick_of_atRest (x := { x with env := x.env.during k }) hrest,
      Env.stateMachine_during hbegin.1 _ hk]

/-- A phase of length T ≥ 1 lasts exactly T ticks (46_envelope.md R266). -/
theorem Voice.ticks_phaseLength (hpos : 0 < x.env.phaseLength) :
    ticks x.env.phaseLength x = { x with env := x.env.transition } := by
  obtain ⟨k, hk⟩ := Nat.exists_eq_add_of_le' hpos
  rw [hk, ticks_succ, ticks_of_begins hrest hbegin (by omega),
    envTick_of_atRest (x := { x with env := x.env.during k }) hrest, Env.stateMachine_during_last hbegin.1 _ hk.symm]

end

/-! ### The phases' starts -/

theorem phaseFrac_zero {T : Nat} (hT : 0 < T) : phaseFrac 0 T = 0 := by
  rw [phaseFrac_of_lt hT, Nat.zero_mul, Nat.zero_div]
  rfl

theorem fsub_one_phaseFrac_zero {T : Nat} (hT : 0 < T) : fsub fxOne (phaseFrac 0 T) = fxOne := by
  rw [phaseFrac_zero hT]
  rfl

/-- The start of a phase, by the state the phase belongs to and the level `level_of` gives at fraction 0. -/
theorem Env.begins.of_level {e : Env} {st : EnvState} (hst : e.state = st)
    (hlevel : e.levelOf 0 e.phaseLength = e.level) (hcounter : e.counter = 0 := by rfl)
    (htimed : st ≠ .idle ∧ st ≠ .sustain := by decide) : e.begins := by
  refine ⟨.of_state hst htimed, ?_⟩
  rw [during, hlevel]
  exact congrArg (fun c => { e with counter := c }) hcounter.symm

section
variable (e : Env)

theorem Env.begins_attack (hT : 0 < e.attackSamples.toNat) :
    ({ e with state := .attack, counter := 0, level := 0 } : Env).begins := by
  refine .of_level (st := .attack) rfl ?_
  rw [levelOf_of_attack _ _ rfl, phaseLength_of_attack rfl, phaseFrac_zero hT]

theorem Env.begins_decay (hT : 0 < e.decaySamples.toNat) :
    ({ e with counter := 0, state := .decay, level := fxOne } : Env).begins := by
  refine .of_level (st := .decay) rfl ?_
  rw [levelOf_of_decay _ _ rfl, phaseLength_of_decay rfl, phaseFrac_zero hT, fmul_comm, fmul_zero]
  rfl

theorem Env.begins_release (hT : 0 < e.releaseSamples.toNat) :
    ({ e with releaseStart := e.level, state := .release, counter := 0 } : Env).begins := by
  refine .of_level (st := .release) rfl ?_
  rw [levelOf_of_release _ _ rfl, phaseLength_of_release rfl, fsub_one_phaseFrac_zero hT, fmul_one]

theorem Env.begins_stealFade (hT : 0 < e.stealFadeSamples.toNat) :
    ({ e with stealFadeStart := e.level, state := .stealFade, counter := 0 } : Env).begins := by
  refine .of_level (st := .stealFade) rfl ?_
  rw [levelOf_of_stealFade _ _ rfl, phaseLength_of_stealFade rfl, fsub_one_phaseFrac_zero hT, fmul_one]

end

/-- Settles O26: Attack, Decay and Release each last their count, and the end of Attack begins Decay. -/
theorem envelopeTrajectory : Obligations.EnvelopeTrajectory := by
  unfold Obligations.EnvelopeTrajectory
  intro x hrest ha hd hr
  constructor
  · intro hidle hlevel y a d
    let attacking : Voice := { x with env := { x.env with state := .attack, counter := 0, level := 0 } }
    let decaying : Voice := { x with env := { x.env with counter := 0, state := .decay, level := fxOne } }
    have hon : x.env.noteOn = attacking.env :=
      Env.noteOn_of_level_nonpos (by rw [hidle]; decide) (by rw [hlevel]; decide)
    have hbegins : attacking.env.begins := x.env.begins_attack ha
    have hbegins' : decaying.env.begins := x.env.begins_decay hd
    have hend : Voice.ticks a attacking = decaying := Voice.ticks_phaseLength (x := attacking) hrest hbegins ha
    have hend' : Voice.ticks d decaying = { decaying with env := decaying.env.transition } :=
      Voice.ticks_phaseLength (x := decaying) hrest hbegins' hd
    have hattack (k : Nat) (hk : k < a) : y k = attacking.env.during k := by
      unfold y
      rw [hon, Voice.ticks_of_begins (x := attacking) hrest hbegins hk]
    have hdecay (j : Nat) : y (a + j) = (Voice.ticks j decaying).env := by
      unfold y
      rw [hon, Voice.ticks_add, hend]
    have hya : y a = decaying.env := hdecay 0
    rw [hdecay d, hend', hya]
    refine ⟨fun k hk => by rw [hattack k hk]; rfl, rfl, rfl, fun k hk hk' => ?_, rfl, rfl⟩
    obtain ⟨j, rfl⟩ := Nat.exists_eq_add_of_le hk
    rw [hdecay j, Voice.ticks_of_begins (x := decaying) hrest hbegins' (Nat.lt_of_add_lt_add_left hk')]
    rfl
  · intro hsustain z r
    let releasing : Voice := { x with env := { x.env with releaseStart := x.env.level, state := .release, counter := 0 } }
    have hoff : x.env.noteOff = releasing.env := Env.noteOff_of_ne_idle (by rw [hsustain]; decide)
    have hbegins : releasing.env.begins := x.env.begins_release hr
    have hend : Voice.ticks r releasing = { releasing with env := releasing.env.transition } :=
      Voice.ticks_phaseLength (x := releasing) hrest hbegins hr
    have hrelease (k : Nat) : z k = (Voice.ticks k releasing).env := by
      unfold z
      rw [hoff]
    rw [hrelease r, hend]
    refine ⟨fun k hk => ?_, rfl, rfl⟩
    rw [hrelease k, Voice.ticks_of_begins (x := releasing) hrest hbegins hk]
    rfl

/-! ### The fade's levels -/

/-- A nonnegative word times a fraction of ONE. -/
theorem s32_fmul_of_fraction {w p : Word} (hw : 0 ≤ s32 w) (hp : 0 ≤ s32 p) (hone : s32 p ≤ 2 ^ 15) :
    s32 (fmul w p) = s32 w * s32 p / 2 ^ 15 := by
  have hlt : s32 w < 2 ^ 31 := BitVec.toInt_lt
  have hnonneg : 0 ≤ s32 w * s32 p := mul_nonneg hw hp
  have hle : s32 w * s32 p ≤ s32 w * 2 ^ 15 := mul_le_mul_of_nonneg_left hone hw
  rw [fmul, asr]
  exact s32_wrap32 _ (by omega) (by omega)

section
variable {c T : Nat} (h : c < T)
include h

theorem phaseFrac_le_one : c * 2 ^ 15 / T ≤ 32768 := Nat.div_le_of_le_mul (Nat.mul_le_mul_right _ h.le)

theorem s32_fsub_one_phaseFrac : s32 (fsub fxOne (phaseFrac c T)) = 32768 - (c * 2 ^ 15 / T : Nat) := by
  have hle := phaseFrac_le_one h
  have hone : s32 fxOne = 32768 := rfl
  rw [fsub, phaseFrac_of_lt h, min_eq_right hle]
  generalize c * 2 ^ 15 / T = q at hle
  have hfrac : s32 (BitVec.ofNat 32 q) = q := s32_wrap32 q (by omega) (by omega)
  rw [hfrac, hone]
  exact s32_wrap32 _ (by omega) (by omega)

theorem s32_fade {w : Word} (hw : 0 ≤ s32 w) :
    s32 (fmul w (fsub fxOne (phaseFrac c T))) = s32 w * (32768 - (c * 2 ^ 15 / T : Nat)) / 2 ^ 15 := by
  have hle := phaseFrac_le_one h
  have hfrac := s32_fsub_one_phaseFrac h
  generalize c * 2 ^ 15 / T = q at hle hfrac
  rw [s32_fmul_of_fraction hw (by omega) (by omega), hfrac]

theorem s32_fade_nonneg {w : Word} (hw : 0 ≤ s32 w) : 0 ≤ s32 (fmul w (fsub fxOne (phaseFrac c T))) := by
  have hle := phaseFrac_le_one h
  rw [s32_fade h hw]
  generalize c * 2 ^ 15 / T = q at hle
  exact Int.ediv_nonneg (mul_nonneg hw (by omega)) (by decide)

end

/-- The fraction that has passed does not shrink from one tick to the next, so the level does not rise. -/
theorem s32_fade_succ_le {c T : Nat} (h : c + 1 < T) {w : Word} (hw : 0 ≤ s32 w) :
    s32 (fmul w (fsub fxOne (phaseFrac (c + 1) T))) ≤ s32 (fmul w (fsub fxOne (phaseFrac c T))) := by
  have hfrac : c * 2 ^ 15 / T ≤ (c + 1) * 2 ^ 15 / T := Nat.div_le_div_right (Nat.mul_le_mul_right _ c.le_succ)
  rw [s32_fade h hw, s32_fade (Nat.lt_of_succ_lt h) hw]
  exact Int.ediv_le_ediv (by decide) (mul_le_mul_of_nonneg_left (by omega) hw)

/-- Settles O27: the fade is a phase that begins at the present level. -/
theorem stealFadeMonotone : Obligations.StealFadeMonotone := by
  unfold Obligations.StealFadeMonotone
  intro x hrest hst hlevel hT y
  let fading : Voice := { x with env := { x.env with stealFadeStart := x.env.level, state := .stealFade, counter := 0 } }
  have hon : x.env.noteOn = fading.env := Env.noteOn_of_level_pos hst hlevel
  have hbegins : fading.env.begins := x.env.begins_stealFade hT
  have hfade {k : Nat} (hk : k < x.env.stealFadeSamples.toNat) : y k = fading.env.during k := by
    unfold y
    rw [hon, Voice.ticks_of_begins (x := fading) hrest hbegins hk]
  have hlast : y x.env.stealFadeSamples.toNat = fading.env.transition := by
    unfold y
    rw [hon]
    exact congrArg Voice.env (Voice.ticks_phaseLength (x := fading) hrest hbegins hT)
  rw [hlast]
  refine ⟨fun k hk => ?_, rfl, rfl⟩
  have hnonneg : 0 ≤ (fading.env.during k).level.toInt := s32_fade_nonneg hk hlevel.le
  rw [hfade hk]
  refine ⟨rfl, hnonneg, ?_⟩
  obtain hend | hinside : k + 1 = x.env.stealFadeSamples.toNat ∨ k + 1 < x.env.stealFadeSamples.toNat := by omega
  · rw [hend, hlast]
    exact hnonneg
  · rw [hfade hinside]
    exact s32_fade_succ_le hinside hlevel.le

end Sys2Proof.Machine
end

section
/-! Family 46_envelope, the note-on packet: the chosen voice starts, and AUDIO's next three units are the rest of
`voice_note_on` (46_envelope.md R264, 48_voice.md R306, 49_polyphony.md R333; log 12). -/

namespace Sys2Proof.Machine

/-! ### Runs of simple units, step by step -/

/-- Units that ask for no draw and add no unit, one step each: the exact run behind `AudioReaches.simples`. -/
theorem audioRun_simples {s : State} {ops rest : List AudioOp} (hb : s.seq.busy = true)
    (hops : ∀ op ∈ ops, op.simple = true) (htodo : s.work.todo = ops ++ rest) (d : Nat) :
    audioRun ops.length (s.withDraws d) =
      .next (((ops.foldl State.runOp s).withTodo rest).withDraws (d + ops.length)) := by
  induction ops generalizing s d with
  | nil =>
    rw [List.foldl_nil, s.withTodo_self rest htodo]
    rfl
  | cons op ops ih =>
    have hop := hops op List.mem_cons_self
    have hrestops : ∀ o ∈ ops, o.simple = true := fun o ho => hops o (List.mem_cons_of_mem op ho)
    have hload : ∀ i, op ≠ .load i := fun i hi => by rw [hi] at hop; cases hop
    have hstep : (s.withDraws d).audioStep = .next (((s.runOp op).withTodo (ops ++ rest)).withDraws (d + 1)) := by
      rw [(s.withDraws d).audioStep_of_todo op (ops ++ rest) hb htodo, ← State.runOp_withTodo _ _ _ hop,
        ← State.runOp_withDraws _ _ _ hload]
      rfl
    have hrest := ih (s := (s.runOp op).withTodo (ops ++ rest)) (by simpa [(s.runOp_seq op hop).1] using hb) hrestops rfl
      (d + 1)
    rw [foldl_runOp_withTodo _ _ _ hrestops, State.withTodo_withTodo, Nat.add_right_comm] at hrest
    rw [List.length_cons, audioRun, hstep]
    exact hrest

/-! ### The three units after a note-on packet -/

/-- A voice read back and written again; for an index that is no voice neither write does anything. -/
theorem State.setVoice_voice_setVoice (s : State) (v : Nat) (x : Voice) (f : Voice → Voice) :
    (s.setVoice v x).setVoice v (f ((s.setVoice v x).voice v)) = s.setVoice v (f x) := by
  by_cases hv : v < s.voices.length
  · rw [State.voice_setVoice_self _ _ _ hv, State.setVoice_setVoice]
  · simp only [State.setVoice, List.set_eq_of_length_le (not_lt.mp hv)]

/-- W1 and W2 of the velocity and `env_note_on` complete `voice_note_on` on a voice that has started. -/
theorem foldl_runOp_noteOnOps (s : State) (v : Nat) (vel : Word) (x : Voice) :
    [.w1 (.voice v .vel) vel, .w2 (.voice v .vel), .envOn v].foldl State.runOp (s.setVoice v x) =
      s.setVoice v { x with vel := x.vel.setTarget vel, env := x.env.noteOn } := by
  have hw1 (s : State) (x : Voice) : (s.setVoice v x).runOp (.w1 (.voice v .vel) vel) =
      s.setVoice v { x with vel := x.vel.storePending vel } :=
    s.setVoice_voice_setVoice v x fun x => { x with vel := x.vel.storePending vel }
  have hw2 (s : State) (x : Voice) : (s.setVoice v x).runOp (.w2 (.voice v .vel)) =
      s.setVoice v { x with vel := x.vel.storeFlag } :=
    s.setVoice_voice_setVoice v x fun x => { x with vel := x.vel.storeFlag }
  have hon (s : State) (x : Voice) : (s.setVoice v x).runOp (.envOn v) = s.setVoice v { x with env := x.env.noteOn } :=
    s.setVoice_voice_setVoice v x fun x => { x with env := x.env.noteOn }
  rw [List.foldl_cons, List.foldl_cons, List.foldl_cons, List.foldl_nil, hw1, hw2, hon]
  rfl

/-- `vel_map` is within half a unit of the velocity's share of ONE (49_polyphony.md R331); 127 is odd, so never half a unit
away. -/
theorem velMap_spec (d2 : Byte) : ∃ vel : Int, velMap d2 = BitVec.ofInt 32 vel ∧
    2 * |vel * 127 - (min d2.toNat 127 : Nat) * 32768| < 127 := by
  have hspec := (rha_spec ((min d2.toNat 127 : Nat) * 32768) 127 (by decide)).1
  refine ⟨_, rfl, ?_⟩
  rw [Nat.cast_ofNat] at hspec
  rw [abs_sub_comm]
  omega

/-- Settles O35: the packet's poll starts the voice, and the three units after it are those of `voice_note_on`. -/
theorem evtNoteOnMeaning : Obligations.EvtNoteOnMeaning := by
  unfold Obligations.EvtNoteOnMeaning
  intro s d1 d2 rsv n v step started e
  obtain ⟨vel, hvel, hnear⟩ := velMap_spec d2
  have hn : (BitVec.ofNat 7 n).toNat = n := Nat.mod_eq_of_lt (by omega)
  have hstart : (s.voice v).startNote s.cfg (BitVec.ofNat 7 n) = started := by
    rw [Voice.startNote, hn]
  have hexec : exec (.evtNoteOn d1 d2 rsv) s = .next (s.vmNoteOn (BitVec.ofNat 7 n) (velMap d2)) := rfl
  rw [State.vmNoteOn, hstart, hvel] at hexec
  refine ⟨vel, _, hnear, hexec, rfl, fun hb =>
    ⟨{ started with vel := started.vel.setTarget (BitVec.ofInt 32 vel), env := started.env.noteOn }, ?_, ?_, rfl,
      Env.noteOn_of_stealFade, Env.noteOn_of_level_pos, Env.noteOn_of_level_nonpos⟩⟩
  · let ops : List AudioOp := [.w1 (.voice v .vel) (BitVec.ofInt 32 vel), .w2 (.voice v .vel), .envOn v]
    let polled : State := { s with
      lastStolen := if 3 ≤ step then BitVec.ofNat 3 v else s.lastStolen
      work := { s.work with todo := ops ++ s.work.todo } }
    have hrun := audioRun_simples (s := polled.setVoice v started) (ops := ops) (rest := s.work.todo) hb
      (by simp [ops, AudioOp.simple]) rfl s.port.draws
    rw [foldl_runOp_noteOnOps] at hrun
    exact hrun
  · rw [Voice.noteOn, hstart]

end Sys2Proof.Machine
end

section
/-! Family 47_filter, bounds: a stage never leaves the interval from its old value to its input, so the ladder stays bounded
(47_filter.md R300). -/

namespace Sys2Proof.Machine

/-! ### Exact words (47_filter.md R300 item 1) -/

theorem s32_fadd {a b : Word} (hlo : -2 ^ 31 ≤ s32 a + s32 b) (hhi : s32 a + s32 b < 2 ^ 31) :
    s32 (fadd a b) = s32 a + s32 b := s32_wrap32 _ hlo hhi

theorem s32_fsub {a b : Word} (hlo : -2 ^ 31 ≤ s32 a - s32 b) (hhi : s32 a - s32 b < 2 ^ 31) :
    s32 (fsub a b) = s32 a - s32 b := s32_wrap32 _ hlo hhi

/-! ### Between two values (47_filter.md R300 item 2) -/

/-- The floored product with a fraction of ONE does not pass the other factor, whatever its sign. -/
theorem mul_ediv_one_mem_uIcc {g : Int} (hg : 0 ≤ g) (hone : g ≤ 2 ^ 15) (d : Int) : g * d / 2 ^ 15 ∈ Set.uIcc 0 d := by
  rw [Set.mem_uIcc]
  obtain hd | hd := le_total 0 d
  · have hnonneg : 0 ≤ g * d := mul_nonneg hg hd
    have hle : g * d ≤ 2 ^ 15 * d := mul_le_mul_of_nonneg_right hone hd
    omega
  · have hnonpos : g * d ≤ 0 := mul_nonpos_of_nonneg_of_nonpos hg hd
    have hge : 2 ^ 15 * d ≤ g * d := mul_le_mul_of_nonpos_right hone hd
    omega

theorem abs_le_of_mem_uIcc {a b c n : Int} (h : c ∈ Set.uIcc a b) (ha : |a| ≤ n) (hb : |b| ≤ n) : |c| ≤ n :=
  abs_le.mpr (Set.uIcc_subset_Icc (abs_le.mp ha) (abs_le.mp hb) h)

section
variable {g : Word} (hg : 0 ≤ s32 g) (hone : s32 g ≤ 2 ^ 15)
include hg hone

/-- A product with a fraction of ONE does not wrap. -/
theorem s32_fmul_mem_uIcc (d : Word) : s32 (fmul g d) ∈ Set.uIcc 0 (s32 d) := by
  have hlo : -2 ^ 31 ≤ s32 d := BitVec.le_toInt d
  have hhi : s32 d < 2 ^ 31 := BitVec.toInt_lt
  have hprod := mul_ediv_one_mem_uIcc hg hone (s32 d)
  have hbounds := Set.mem_uIcc.mp hprod
  rwa [fmul, asr, s32_wrap32 _ (by omega) (by omega)]

/-- A stage lands between its old value and its input. -/
theorem s32_stage_mem_uIcc {u s : Word} (hs : |s32 s| ≤ lim16) (hu : |s32 u| ≤ lim16) :
    s32 (stage g u s) ∈ Set.uIcc (s32 s) (s32 u) := by
  simp only [abs_le, lim16] at hs hu
  have hprod := s32_fmul_mem_uIcc hg hone (fsub u s)
  rw [s32_fsub (by omega) (by omega), Set.mem_uIcc] at hprod
  rw [stage, s32_fadd (by omega) (by omega), Set.mem_uIcc]
  omega

end

/-! ### The clamps (47_filter.md R294, R300 item 3) -/

theorem abs_fclamp_le (x : Word) {n : Int} (hn : 0 ≤ n) (hlt : n < 2 ^ 31) : |s32 (fclamp x (wrap32 (-n)) (wrap32 n))| ≤ n :=
  abs_le.mpr (s32_fclamp_wrap32_mem x (-n) n (by omega) (by omega) hlt)

theorem Ladder.abs_feedback_le (l : Ladder) (x res : Word) : |s32 (l.feedback x res)| ≤ lim16 :=
  abs_fclamp_le _ (by decide) (by decide)

theorem Ladder.abs_output_le (l : Ladder) : |s32 l.output| ≤ lim16 := abs_fclamp_le _ (by decide) (by decide)

/-- Settles O31: the feedback is clamped, each stage stays between two bounded words, and the last two clamps do the rest. -/
theorem ladderBounded : Obligations.LadderBounded := by
  unfold Obligations.LadderBounded
  intro l x g res hg hone _ _ _ h1 h2 h3 _ t between
  have hfb : |s32 (l.feedback x res)| ≤ lim16 := l.abs_feedback_le x res
  have hb1 : s32 t.s1 ∈ Set.uIcc (s32 l.s1) (s32 (l.feedback x res)) := s32_stage_mem_uIcc hg hone h1 hfb
  have ht1 : |s32 t.s1| ≤ lim16 := abs_le_of_mem_uIcc hb1 h1 hfb
  have hb2 : s32 t.s2 ∈ Set.uIcc (s32 l.s2) (s32 t.s1) := s32_stage_mem_uIcc hg hone h2 ht1
  have ht2 : |s32 t.s2| ≤ lim16 := abs_le_of_mem_uIcc hb2 h2 ht1
  have hb3 : s32 t.s3 ∈ Set.uIcc (s32 l.s3) (s32 t.s2) := s32_stage_mem_uIcc hg hone h3 ht2
  have ht3 : |s32 t.s3| ≤ lim16 := abs_le_of_mem_uIcc hb3 h3 ht2
  exact ⟨hb1, hb2, hb3, ht1, ht2, ht3, abs_le.mpr (l.bounded_step x g res), t.abs_output_le⟩

end Sys2Proof.Machine
end

section
/-! Family 47_filter, UOPs: the coefficients and their ranges, the step and the reads of the ladder, and the reserved
SVF_STEP. -/

namespace Sys2Proof.Machine

/-! ### The coefficients (47_filter.md R290 to R292) -/

theorem ladderG_eq (cut : Word) : ladderG cut = 33 + fmul 27787 cut := fadd_eq_add _ _

section
variable {r : Word} (hr : 0 ≤ s32 r) (hone : s32 r ≤ 2 ^ 15)
include hr hone

/-- A nonnegative constant scaled by a fraction of ONE lies between 0 and the constant. -/
theorem s32_fmul_fraction_mem {k : Word} (hk : 0 ≤ s32 k) : 0 ≤ s32 (fmul k r) ∧ s32 (fmul k r) ≤ s32 k := by
  rw [fmul_comm, ← Set.mem_Icc, ← Set.uIcc_of_le hk]
  exact s32_fmul_mem_uIcc hr hone k

theorem s32_ladderG_mem : 33 ≤ s32 (ladderG r) ∧ s32 (ladderG r) ≤ 27820 := by
  obtain ⟨hlo, hhi⟩ : 0 ≤ s32 (fmul 27787 r) ∧ s32 (fmul 27787 r) ≤ 27787 :=
    s32_fmul_fraction_mem hr hone (by decide)
  have hbase : s32 33 = 33 := rfl
  rw [ladderG, s32_fadd (by omega) (by omega), hbase]
  omega

theorem s32_ladderRes_mem : 0 ≤ s32 (ladderRes r) ∧ s32 (ladderRes r) ≤ 127795 :=
  s32_fmul_fraction_mem hr hone (k := 127795) (by decide)

end

theorem keyTerm_noteOf (w : Word) :
    keyTerm (noteOf w) = BitVec.ofInt 32 (Int.tdiv (((min w.toNat 127 : Int) - 60) * 32768) 12) := by
  have hnote : (noteOf w).toNat = min w.toNat 127 := Nat.mod_eq_of_lt (by omega)
  rw [keyTerm, tdiv, hnote, Nat.cast_min, Nat.cast_ofNat]

theorem cutoffMod_eq (c : Cfg) (base lvl : Word) (note : BitVec 7) : cutoffMod c base lvl note =
    fclamp (base + fmul c.envAmount lvl + fmul c.keyTrack (fmul (keyTerm note) 9830)) 0 32768 := by
  rw [cutoffMod, fadd_eq_add, fadd_eq_add]
  rfl

theorem s32_cutoffMod_mem (c : Cfg) (base lvl : Word) (note : BitVec 7) :
    0 ≤ s32 (cutoffMod c base lvl note) ∧ s32 (cutoffMod c base lvl note) ≤ 32768 :=
  s32_fclamp_wrap32_mem _ 0 32768 (by decide) (by decide) (by decide)

/-- Settles O29: ONE is the largest fraction, so the constants bound the products; the cutoff is clamped. -/
theorem coefficientUops : Obligations.CoefficientUops := by
  unfold Obligations.CoefficientUops
  intro s
  rw [← ladderG_eq]
  refine ⟨rfl, rfl, fun ha hone => ?_, cutoffMod s.cfg s.regs.a s.regs.b (noteOf s.regs.c), rfl, ?_⟩
  · obtain ⟨hglo, hghi⟩ := s32_ladderG_mem ha hone
    exact ⟨hglo, hghi, s32_ladderRes_mem ha hone⟩
  · obtain ⟨hlo, hhi⟩ := s32_cutoffMod_mem s.cfg s.regs.a s.regs.b (noteOf s.regs.c)
    exact ⟨hlo, hhi, by rw [cutoffMod_eq, keyTerm_noteOf]⟩

/-! ### The step (47_filter.md R293) -/

theorem stage_eq (g u s : Word) : stage g u s = s + fmul g (u - s) := by
  rw [stage, fadd_eq_add, fsub_eq_sub]

theorem Ladder.feedback_eq (l : Ladder) (x res : Word) :
    l.feedback x res = fclamp (x - fmul res l.s4) (-524288) 524288 := by
  rw [feedback, fsub_eq_sub]
  rfl

section
variable {s : State} {v : Nat} (hidle : s.seq.busy = false) (hv : v < s.cfg.nvoices)
include hidle hv

theorem exec_ladderStep {l : Ladder} (hl : (s.voice v).lad.step s.regs.a s.regs.b s.regs.c = l) :
    exec (.ladderStep v) s = .next ((s.setVoice v { s.voice v with lad := l }).setR l.output) := by
  subst hl
  apply State.uop_admitted (voiceAdmitted_of_lt hv) hidle

theorem exec_ladderRead_field {x : Word} (hsel : (s.voice v).lad.field s.regs.b.toNat = some x) :
    exec (.ladderRead v) s = .next (s.setR x) := by
  change execLadderRead v s = _
  rw [execLadderRead, State.uop_admitted (voiceAdmitted_of_lt hv) hidle, hsel]

theorem exec_ladderRead_illegal (hsel : 4 ≤ s.regs.b.toNat) :
    exec (.ladderRead v) s = .next (s.raise .illegal (wordTop (encode (.ladderRead v)))) := by
  obtain ⟨n, hn⟩ := Nat.exists_eq_add_of_le' hsel
  change execLadderRead v s = _
  rw [execLadderRead, State.uop_admitted (voiceAdmitted_of_lt hv) hidle, hn, encode, wordTop_uopWord]
  rfl

end

/-- Settles O28: the step's formulas on words. -/
theorem ladderStepUop : Obligations.LadderStepUop := by
  unfold Obligations.LadderStepUop
  intro s v hidle hv x g fb s1 s2 s3 s4
  have hstep : x.lad.step s.regs.a g s.regs.c = ⟨s1, s2, s3, s4⟩ := by
    simp only [Ladder.step, Ladder.feedback_eq, stage_eq]
    rfl
  exact exec_ladderStep hidle hv hstep

/-! ### SVF_STEP (47_filter.md R302) -/

theorem decodeUop_of_svf {w : Word} (h : bits w 31 24 = 0x68) : decodeUop w = .svfStep (BitVec.ofNat 24 (bits w 23 0)) :=
  if_pos h

theorem exec_svfStep (s : State) (low : BitVec 24) :
    exec (.svfStep low) s = .next (s.raise .illegal (wordTop (encode (.svfStep low)))) := by
  rw [← wordInfo_eq_wordTop]
  rfl

theorem bits_of_extractLsb'_eq_svf {w : Word} (h : w.extractLsb' 24 8 = 0x68) : bits w 31 24 = 0x68 := by
  have htop := congrArg BitVec.toNat h
  rwa [BitVec.extractLsb'_toNat, Nat.shiftRight_eq_div_pow] at htop

/-- Settles O30: the stages by selector, the record of any other, and SVF_STEP's record of its own word. -/
theorem ladderReadAndSvf : Obligations.LadderReadAndSvf := by
  unfold Obligations.LadderReadAndSvf
  constructor
  · intro s v hidle hv l
    have hread {x : Word} (sel : Word) (hx : l.field sel.toNat = some x) (hsel : s.regs.b = sel) :
        exec (.ladderRead v) s = .next (s.setR x) := exec_ladderRead_field hidle hv (hsel ▸ hx)
    exact ⟨hread 0 rfl, hread 1 rfl, hread 2 rfl, hread 3 rfl, exec_ladderRead_illegal hidle hv⟩
  · intro s w hop
    have hbits := bits_of_extractLsb'_eq_svf hop
    refine ⟨_, decodeUop_of_svf hbits, ?_⟩
    rw [exec_svfStep, encode, svfWord_fields w hbits]

end Sys2Proof.Machine
end

section
/-! Family 41_fixpoint, ADDCLAMP: the exact sum, clamped (90_conflicts.md C2, 92_eei_decisions.md D9; log 9). -/

namespace Sys2Proof.Machine

/-- The clamp lies between two words, so it is a word whatever the sum is. -/
theorem toInt_faddclamp (a b lo hi : Word) :
    (faddclamp a b lo hi).toInt = max lo.toInt (min hi.toInt (a.toInt + b.toInt)) := by
  have hlo : -2 ^ 31 ≤ lo.toInt := BitVec.le_toInt lo
  have hlo' : lo.toInt < 2 ^ 31 := BitVec.toInt_lt
  have hhi : hi.toInt < 2 ^ 31 := BitVec.toInt_lt
  exact s32_wrap32 _ (le_max_of_le_left hlo) (max_lt hlo' (min_lt_of_left_lt hhi))

/-- Settles O3: the clamp of the exact sum, by the order of the bounds and the side the sum lies on. -/
theorem addClampUop : Obligations.AddClampUop := by
  unfold Obligations.AddClampUop
  refine ⟨by decide, fun s => ?_⟩
  intro sum lo hi
  have hr : (faddclamp s.regs.a s.regs.b lo hi).toInt = max lo.toInt (min hi.toInt sum) := toInt_faddclamp _ _ _ _
  refine ⟨faddclamp s.regs.a s.regs.b lo hi, rfl, fun hle => ⟨fun hlt => ?_, fun hgt => ?_, fun hge hsum => ?_⟩,
    fun hcross => ?_⟩
  · exact BitVec.eq_of_toInt_eq (by omega)
  · exact BitVec.eq_of_toInt_eq (by omega)
  · omega
  · exact BitVec.eq_of_toInt_eq (by omega)

end Sys2Proof.Machine
end

section
/-! Family 48_voice: the note events, the read and the rendered sample of one voice. -/

namespace Sys2Proof.Machine

/-! ### Notes and the word of VOICE_READ (48_voice.md R306, R312) -/

theorem toNat_noteOf (w : Word) : (noteOf w).toNat = min w.toNat 127 := Nat.mod_eq_of_lt (by omega)

/-- `VOICE_NOTE_ON`'s effect field by field: the envelope's event, W1 and W2 of the velocity, and the four phases. -/
theorem Voice.noteOn_noteOf (x : Voice) (c : Cfg) (w vel : Word) : x.noteOn c (noteOf w) vel = { x with
    midiNote := noteOf w
    active := true
    saw := ⟨0, noteInc c (min w.toNat 127)⟩
    pulse := ⟨0, noteInc c (min w.toNat 127)⟩
    sub := ⟨0, subInc c (min w.toNat 127)⟩
    seed := 0
    vel := { x.vel with pending := vel, hasNew := true }
    env := x.env.noteOn } := by
  rw [Voice.noteOn, Voice.startNote, toNat_noteOf]
  rfl

theorem boolToNat_mul (b : Bool) (n : Nat) : b.toNat * n = if b then n else 0 := by
  cases b
  · exact Nat.zero_mul n
  · exact Nat.one_mul n

/-! ### The UOPs (48_voice.md R307, R309, R311, R312) -/

section
variable {s : State} {v : Nat} (hidle : s.seq.busy = false) (hv : v < s.cfg.nvoices)
include hidle hv

theorem exec_voiceNoteOn : exec (.voiceNoteOn v) s =
    .next (s.setVoice v ((s.voice v).noteOn s.cfg (noteOf s.regs.a) s.regs.b)) := by
  apply State.uop_admitted (voiceAdmitted_of_lt hv) hidle

theorem exec_voiceNoteOff : exec (.voiceNoteOff v) s = .next (s.setVoice v (s.voice v).noteOff) := by
  apply State.uop_admitted (voiceAdmitted_of_lt hv) hidle

theorem exec_voiceRead : exec (.voiceRead v) s = .next (s.setR (s.voice v).word) := by
  apply State.uop_admitted (voiceAdmitted_of_lt hv) hidle

theorem exec_voiceRender {r : Word} {y : Voice} (h : (s.voice v).render s.cfg s.mix s.sent = (r, y)) :
    exec (.voiceRender v) s = .next ((s.setVoice v y).setR r) := by
  change execVoiceRender v s = _
  rw [execVoiceRender, State.uop_admitted (voiceAdmitted_of_lt hv) hidle, h, State.emit]

end

/-- Settles O32: the three functions field by field; the word of the read by the state's code. -/
theorem voiceEventUops : Obligations.VoiceEventUops := by
  unfold Obligations.VoiceEventUops
  intro s v hidle hv x n
  refine ⟨?_, exec_voiceNoteOff hidle hv, ?_⟩
  · rw [exec_voiceNoteOn hidle hv, Voice.noteOn_noteOf]
    rfl
  · rw [exec_voiceRead hidle hv, Voice.word, boolToNat_mul]
    cases x.env.state <;> rfl

/-! ### One sample (48_voice.md R310) -/

/-- The oscillator part on words: the four samples mixed, and the voice with its width set and its oscillators advanced. -/
theorem Voice.oscMix_eq (x : Voice) (m : Mix) : x.oscMix m =
    ((fmul (sawSample x.saw.acc) m.sawLvl.current + fmul (pulseSample x.pulse.acc (pwClamp m.pulseW.current)) m.pulseLvl.current +
        fmul (subSample x.sub.acc) m.subLvl.current + fmul (noiseSample x.seed) m.noiseLvl.current).sshiftRight 2,
      { x with
        width := pwClamp m.pulseW.current, saw := x.saw.advance, pulse := x.pulse.advance, sub := x.sub.advance
        seed := lcg x.seed }) := by
  simp only [← fadd_eq_add, ← fshra_eq_sshiftRight]
  rfl

/-- `voice_render` in R310's order: the mix of the oscillators, the tick, the modulated filter, the level and the velocity. -/
theorem Voice.render_eq (x : Voice) (c : Cfg) (m : Mix) (p : Sampled) : x.render c m p =
    let l := x.lad.step (x.oscMix m).1 (ladderG (cutoffMod c p.cutFix x.envTick.env.level x.midiNote)) (ladderRes p.resFix)
    (fmul (fmul l.output x.envTick.env.level) x.vel.next.current, { (x.oscMix m).2 with
      env := x.envTick.env, lad := l
      vel := x.vel.next, sus := x.sus.next, att := x.att.next, dec := x.dec.next, rel := x.rel.next }) := by
  rw [Voice.render, Voice.envTick_eq, Voice.envTick_eq]
  rfl

/-! ### An Idle voice (48_voice.md R311, 46_envelope.md R266) -/

@[simp] theorem Env.updateTime_state (e : Env) (f : TimeField) (n : Nat) : (e.updateTime f n).state = e.state := by
  unfold updateTime
  split_ifs <;> cases f <;> rfl

theorem Voice.latchedEnv_state (x : Voice) : x.latchedEnv.state = x.env.state := by
  simp only [latchedEnv, Env.updateTime_state]

theorem Voice.envTick_level_of_idle {x : Voice} (h : x.env.state = .idle) : x.envTick.env.level = 0 := by
  rw [envTick_eq, Env.stateMachine_of_idle _ (x.latchedEnv_state.trans h)]

/-! ### The bound of the output (48_voice.md R313) -/

/-- A factor in 0..ONE does not carry a product past a bound. -/
theorem abs_fmul_fraction_le {a g : Word} {n : Int} (ha : |s32 a| ≤ n) (hg : 0 ≤ s32 g) (hone : s32 g ≤ 2 ^ 15) :
    |s32 (fmul a g)| ≤ n := by
  have hzero : |(0 : Int)| ≤ n := by rw [abs_zero]; exact (abs_nonneg _).trans ha
  rw [fmul_comm]
  exact abs_le_of_mem_uIcc (s32_fmul_mem_uIcc hg hone a) hzero ha

/-- Settles O33: the statement's words are those of `voice_render`; the clamps bound the output, and level and velocity keep
the bound. -/
theorem voiceRenderUop : Obligations.VoiceRenderUop := by
  unfold Obligations.VoiceRenderUop
  intro s v hidle hv x m width saw pulse sub noise sum mix e kt cut g fb s1 s2 s3 s4 y r
  have hosc : x.oscMix m = (mix, { x with
      width := width, saw := ⟨x.saw.acc + x.saw.inc, x.saw.inc⟩, pulse := ⟨x.pulse.acc + x.pulse.inc, x.pulse.inc⟩
      sub := ⟨x.sub.acc + x.sub.inc, x.sub.inc⟩, seed := x.seed * 1664525 + 1013904223 }) := by
    rw [Voice.oscMix_eq, sawSample_eq, pulseSample_eq, subSample_eq, noiseSample_eq, lcg_eq, Osc.advance_eq, Osc.advance_eq,
      Osc.advance_eq]
    rfl
  have hcut : cutoffMod s.cfg s.sent.cutFix e.level x.midiNote = cut := cutoffMod_eq _ _ _ _
  have hlad : x.lad.step mix (ladderG cut) (ladderRes s.sent.resFix) = ⟨s1, s2, s3, s4⟩ := by
    simp only [Ladder.step, Ladder.feedback_eq, stage_eq, ladderG_eq]
    rfl
  have hrender : x.render s.cfg m s.sent = (r, y) := by
    rw [Voice.render_eq, hosc, hcut, hlad]
    rfl
  have hbounded : Ladder.bounded ⟨s1, s2, s3, s4⟩ := hlad ▸ x.lad.bounded_step _ _ _
  have hout : |s32 (Ladder.output ⟨s1, s2, s3, s4⟩)| ≤ lim16 := Ladder.abs_output_le _
  refine ⟨exec_voiceRender hidle hv hrender, fun hst => ?_, abs_le.mpr hbounded, fun hlevel hlevel1 hvel hvel1 => ?_⟩
  · have hlevel : e.level = 0 := Voice.envTick_level_of_idle hst
    refine ⟨?_, hlevel⟩
    unfold r
    rw [hlevel, fmul_zero, fmul_comm, fmul_zero]
  · exact abs_fmul_fraction_le (abs_fmul_fraction_le hout hlevel hlevel1) hvel hvel1

end Sys2Proof.Machine
end

section
/-! Family 49_polyphony, searches: the first voice with a property, and the quietest one (49_polyphony.md R332). -/

namespace Sys2Proof.Machine

theorem State.voice_eq_getElem (s : State) {u : Nat} (h : u < s.voices.length) : s.voice u = s.voices[u] :=
  List.getD_eq_getElem _ _ h

/-! ### The first voice -/

theorem firstVoice_eq_findIdx? (p : Voice → Bool) (vs : List Voice) (i : Nat) :
    firstVoice p vs i = (vs.findIdx? p).map (· + i) := by
  induction vs generalizing i with
  | nil => rfl
  | cons x xs ih =>
    rw [firstVoice, List.findIdx?_cons, ih]
    split
    · simp
    · rw [Option.map_map]
      refine congrArg (Option.map · _) (funext fun k => ?_)
      simp only [Function.comp_apply]
      omega

/-- Voice `v` has the property and no voice before it does. -/
def State.FirstVoice (s : State) (p : Voice → Bool) (v : Nat) : Prop :=
  v < s.voices.length ∧ p (s.voice v) = true ∧ ∀ u, u < v → p (s.voice u) = false

/-- No voice of the bank has the property. -/
def State.NoVoice (s : State) (p : Voice → Bool) : Prop := ∀ u, u < s.voices.length → p (s.voice u) = false

theorem State.firstVoice_eq_some_iff (s : State) (p : Voice → Bool) (v : Nat) :
    firstVoice p s.voices 0 = some v ↔ s.FirstVoice p v := by
  simp only [firstVoice_eq_findIdx?, Nat.add_zero, Option.map_id', List.findIdx?_eq_some_iff_getElem, FirstVoice]
  constructor
  · rintro ⟨hv, hp, hbefore⟩
    refine ⟨hv, by rwa [s.voice_eq_getElem hv], fun u hu => ?_⟩
    rw [s.voice_eq_getElem (hu.trans hv)]
    exact Bool.eq_false_iff.mpr (hbefore u hu)
  · rintro ⟨hv, hp, hbefore⟩
    refine ⟨hv, by rwa [← s.voice_eq_getElem hv], fun u hu => ?_⟩
    rw [← s.voice_eq_getElem (hu.trans hv)]
    exact Bool.eq_false_iff.mp (hbefore u hu)

theorem State.firstVoice_eq_none_iff (s : State) (p : Voice → Bool) : firstVoice p s.voices 0 = none ↔ s.NoVoice p := by
  simp only [firstVoice_eq_findIdx?, Option.map_eq_none_iff, List.findIdx?_eq_none_iff, NoVoice]
  constructor
  · intro h u hu
    rw [s.voice_eq_getElem hu]
    exact h _ (List.getElem_mem hu)
  · intro h x hx
    obtain ⟨u, hu, rfl⟩ := List.mem_iff_getElem.mp hx
    rw [← s.voice_eq_getElem hu]
    exact h u hu

/-! ### The quietest voice -/

/-- The best choice once voice `x`, of index `i`, has been looked at: `x` where it has the property and is quieter. -/
def quieter (p : Voice → Bool) (i : Nat) (x : Voice) (best : Option (Nat × Int)) : Option (Nat × Int) :=
  if p x then
    match best with
    | none => some (i, s32 x.env.level)
    | some (j, l) => if s32 x.env.level < l then some (i, s32 x.env.level) else some (j, l)
  else best

theorem quietestVoice_cons (p : Voice → Bool) (x : Voice) (xs : List Voice) (i : Nat) (best : Option (Nat × Int)) :
    quietestVoice p (x :: xs) i best = quietestVoice p xs (i + 1) (quieter p i x best) := by
  simp only [quietestVoice, quieter]
  split
  · rcases best with _ | ⟨j, l⟩
    · rfl
    · dsimp only
      split <;> rfl
  · rfl

/-- Among the voices below `i`, `v` is the quietest with the property, ties to the lowest index. -/
def State.QuietestBelow (s : State) (p : Voice → Bool) (i v : Nat) : Prop :=
  v < i ∧ p (s.voice v) = true ∧ ∀ u, u < i → p (s.voice u) = true →
    s32 (s.voice v).env.level ≤ s32 (s.voice u).env.level ∧
      (u < v → s32 (s.voice v).env.level < s32 (s.voice u).env.level)

/-- What the search knows of the voices below `i`. -/
def State.BestBelow (s : State) (p : Voice → Bool) (i : Nat) (best : Option (Nat × Int)) : Prop :=
  match best with
  | none => ∀ u, u < i → p (s.voice u) = false
  | some (v, l) => l = s32 (s.voice v).env.level ∧ s.QuietestBelow p i v

/-- Looking at one more voice keeps the best choice the best. -/
theorem State.BestBelow.succ {s : State} {p : Voice → Bool} {i : Nat} {best : Option (Nat × Int)}
    (h : s.BestBelow p i best) : s.BestBelow p (i + 1) (quieter p i (s.voice i) best) := by
  have hlast {u : Nat} (hu : u < i + 1) : u < i ∨ u = i := Nat.lt_succ_iff_lt_or_eq.mp hu
  unfold quieter
  by_cases hp : p (s.voice i) = true
  · rw [if_pos hp]
    rcases best with _ | ⟨v, l⟩
    · refine ⟨rfl, Nat.lt_succ_self i, hp, fun u hu hpu => ?_⟩
      obtain hlt | rfl := hlast hu
      · exact absurd (h u hlt) (by simp [hpu])
      · exact ⟨le_rfl, fun hlt => absurd hlt (lt_irrefl _)⟩
    · obtain ⟨rfl, hv, hpv, hbest⟩ := h
      dsimp only
      split
      case isTrue hquieter =>
        refine ⟨rfl, Nat.lt_succ_self i, hp, fun u hu hpu => ?_⟩
        obtain hlt | rfl := hlast hu
        · obtain ⟨hle, -⟩ := hbest u hlt hpu
          exact ⟨(hquieter.trans_le hle).le, fun _ => hquieter.trans_le hle⟩
        · exact ⟨le_rfl, fun hlt => absurd hlt (lt_irrefl _)⟩
      case isFalse hloud =>
        refine ⟨rfl, Nat.lt_succ_of_lt hv, hpv, fun u hu hpu => ?_⟩
        obtain hlt | rfl := hlast hu
        · exact hbest u hlt hpu
        · exact ⟨not_lt.mp hloud, fun hlt => absurd hlt hv.not_gt⟩
  · rw [if_neg hp]
    rcases best with _ | ⟨v, l⟩
    · intro u hu
      obtain hlt | rfl := hlast hu
      · exact h u hlt
      · exact Bool.eq_false_iff.mpr hp
    · obtain ⟨rfl, hv, hpv, hbest⟩ := h
      refine ⟨rfl, Nat.lt_succ_of_lt hv, hpv, fun u hu hpu => ?_⟩
      obtain hlt | rfl := hlast hu
      · exact hbest u hlt hpu
      · exact absurd hpu hp

/-- The search from voice `i` on ends with the best choice of the whole bank. -/
theorem State.quietestVoice_drop (s : State) (p : Voice → Bool) (i : Nat) (best : Option (Nat × Int))
    (hi : i ≤ s.voices.length) (h : s.BestBelow p i best) :
    ∃ final, quietestVoice p (s.voices.drop i) i best = final.map Prod.fst ∧ s.BestBelow p s.voices.length final := by
  induction hn : s.voices.length - i generalizing i best with
  | zero =>
    obtain rfl : i = s.voices.length := by omega
    exact ⟨best, by rw [List.drop_length]; rfl, h⟩
  | succ n ih =>
    have hlt : i < s.voices.length := by omega
    rw [List.drop_eq_getElem_cons hlt, quietestVoice_cons, ← s.voice_eq_getElem hlt]
    exact ih (i + 1) _ hlt h.succ (by omega)

theorem State.quietestVoice_spec (s : State) (p : Voice → Bool) :
    (∃ v, quietestVoice p s.voices 0 none = some v ∧ s.QuietestBelow p s.voices.length v) ∨
      quietestVoice p s.voices 0 none = none ∧ s.NoVoice p := by
  obtain ⟨final, hfinal, hbest⟩ := s.quietestVoice_drop p 0 none (Nat.zero_le _) fun u hu => absurd hu (Nat.not_lt_zero u)
  rw [List.drop_zero] at hfinal
  rw [hfinal]
  rcases final with _ | ⟨v, l⟩
  · exact .inr ⟨rfl, hbest⟩
  · exact .inl ⟨v, rfl, hbest.2⟩

end Sys2Proof.Machine
end

section
/-! Family 49_polyphony, allocation: which voice `vm_select` chooses, and by which of its five steps (49_polyphony.md R332,
R336). -/

namespace Sys2Proof.Machine

theorem Voice.holds_iff (x : Voice) (n : BitVec 7) :
    x.holds n = true ↔ x.midiNote = n ∧ (x.active = true ∨ x.env.state = .release) := by
  simp [Voice.holds]

/-- Step `k` chooses voice `v` for the note: it has the step's property, and no earlier step applies. -/
inductive State.Selects (s : State) (n : BitVec 7) (v : Nat) : Nat → Prop where
  | retrigger (hv : s.FirstVoice (·.holds n) v) : Selects s n v 1
  | free (hholds : s.NoVoice (·.holds n)) (hv : s.FirstVoice (·.env.state == .idle) v) : Selects s n v 2
  | released (hholds : s.NoVoice (·.holds n)) (hidle : s.NoVoice (·.env.state == .idle))
      (hv : s.FirstVoice (·.env.state == .release) v) : Selects s n v 3
  | sustained (hholds : s.NoVoice (·.holds n)) (hidle : s.NoVoice (·.env.state == .idle))
      (hrelease : s.NoVoice (·.env.state == .release))
      (hv : s.QuietestBelow (·.env.state == .sustain) s.voices.length v) : Selects s n v 4
  | quietest (hholds : s.NoVoice (·.holds n)) (hidle : s.NoVoice (·.env.state == .idle))
      (hrelease : s.NoVoice (·.env.state == .release)) (hsustain : s.NoVoice (·.env.state == .sustain))
      (hv : s.QuietestBelow (fun _ => true) s.voices.length v) : Selects s n v 5

theorem State.Selects.step_mem {s : State} {n : BitVec 7} {v k : Nat} (h : s.Selects n v k) : 1 ≤ k ∧ k ≤ 5 := by
  cases h <;> decide

theorem State.selects_selectVoice (s : State) (n : BitVec 7) (hbank : 0 < s.voices.length) :
    s.Selects n (selectVoice s.voices n).1 (selectVoice s.voices n).2 := by
  unfold selectVoice
  split
  · rename_i hv
    exact .retrigger ((s.firstVoice_eq_some_iff _ _).mp hv)
  rename_i hholds
  rw [s.firstVoice_eq_none_iff] at hholds
  split
  · rename_i hv
    exact .free hholds ((s.firstVoice_eq_some_iff _ _).mp hv)
  rename_i hidle
  rw [s.firstVoice_eq_none_iff] at hidle
  split
  · rename_i hv
    exact .released hholds hidle ((s.firstVoice_eq_some_iff _ _).mp hv)
  rename_i hrelease
  rw [s.firstVoice_eq_none_iff] at hrelease
  obtain ⟨v, hq, hv⟩ | ⟨hq, hsustain⟩ := s.quietestVoice_spec (·.env.state == .sustain)
  · rw [hq]
    exact .sustained hholds hidle hrelease hv
  rw [hq]
  obtain ⟨v, hq, hv⟩ | ⟨-, hnone⟩ := s.quietestVoice_spec fun _ => true
  · rw [hq]
    exact .quietest hholds hidle hrelease hsustain hv
  · exact absurd (hnone 0 hbank) nofun

/-- Settles O34: the choice is a voice of the bank, so the packed index is the index, and its step says the rest. -/
theorem vmSelectUop : Obligations.VmSelectUop := by
  unfold Obligations.VmSelectUop
  intro s hbusy hl hbank n holds state level noVoice first quietest
  have hvoices := Cfg.nvoices_of_legal hl
  have hv := selectVoice_lt s.voices n (by omega)
  have hsel := s.selects_selectVoice n (by omega)
  have hexec : exec .vmSelect s = .next (s.setR (BitVec.ofNat 32 ((selectVoice s.voices n).2 * 2 ^ 16 +
      (if 3 ≤ (selectVoice s.voices n).2 then 2 ^ 8 else 0) + (selectVoice s.voices n).1 % 8))) := by
    apply State.uop_admitted rfl hbusy
  rw [Nat.mod_eq_of_lt (by omega)] at hexec
  generalize selectVoice s.voices n = choice at hv hsel hexec
  obtain ⟨v, k⟩ := choice
  obtain ⟨hk1, hk5⟩ := hsel.step_mem
  have hholds (u : Nat) : holds u ↔ (s.voice u).holds n = true := ((s.voice u).holds_iff n).symm
  have hstate (st : EnvState) (u : Nat) : state u = st ↔ ((s.voice u).env.state == st) = true := beq_iff_eq.symm
  have hno {p : Voice → Bool} {q : Nat → Prop} (hq : ∀ u, q u ↔ p (s.voice u) = true) (h : s.NoVoice p) : noVoice q :=
    fun u hu hqu => absurd ((hq u).mp hqu) (by simp [h u (hbank ▸ hu)])
  have hfirst {p : Voice → Bool} {q : Nat → Prop} (hq : ∀ u, q u ↔ p (s.voice u) = true) (h : s.FirstVoice p v) :
      first q v := by
    obtain ⟨-, hp, hbefore⟩ := h
    exact ⟨(hq v).mpr hp, fun u hu hqu => absurd ((hq u).mp hqu) (by simp [hbefore u hu])⟩
  have hquiet {p : Voice → Bool} {q : Nat → Prop} (hq : ∀ u, q u ↔ p (s.voice u) = true)
      (h : s.QuietestBelow p s.voices.length v) : quietest q v := by
    obtain ⟨-, hp, hbest⟩ := h
    exact ⟨(hq v).mpr hp, fun u hu hqu => hbest u (hbank ▸ hu) ((hq u).mp hqu)⟩
  refine ⟨v, k, hbank ▸ hv, hk1, hk5, hexec, ?_, ?_, ?_, ?_, ?_⟩ <;> rintro rfl
  · cases hsel with
    | retrigger h1 => exact hfirst hholds h1
  · cases hsel with
    | free h1 h2 => exact ⟨hno hholds h1, hfirst (hstate _) h2⟩
  · cases hsel with
    | released h1 h2 h3 => exact ⟨hno hholds h1, hno (hstate _) h2, hfirst (hstate _) h3⟩
  · cases hsel with
    | sustained h1 h2 h3 h4 => exact ⟨hno hholds h1, hno (hstate _) h2, hno (hstate _) h3, hquiet (hstate _) h4⟩
  · cases hsel with
    | quietest h1 h2 h3 h4 h5 =>
      exact ⟨hno hholds h1, hno (hstate _) h2, hno (hstate _) h3, hno (hstate _) h4,
        hquiet (q := fun _ => True) (fun _ => iff_of_true trivial rfl) h5⟩

end Sys2Proof.Machine
end

section
/-! Family 49_polyphony, note-off: the packets that release voices, and a note-on followed by its note-off (49_polyphony.md
R326 to R330, R334, R335, R344). -/

namespace Sys2Proof.Machine

/-! ### `vm_note_off` and `vm_all_off` (49_polyphony.md R334, R335) -/

section
variable {s : State} {n : BitVec 7}

theorem State.vmNoteOff_of_first {v : Nat} (h : s.FirstVoice (fun x => x.active && x.midiNote == n) v) :
    s.vmNoteOff n = s.setVoice v (s.voice v).noteOff := by
  rw [vmNoteOff, (s.firstVoice_eq_some_iff _ v).mpr h]

theorem State.vmNoteOff_of_none (h : s.NoVoice fun x => x.active && x.midiNote == n) : s.vmNoteOff n = s := by
  rw [vmNoteOff, (s.firstVoice_eq_none_iff _).mpr h]

end

theorem State.voice_vmAllOff (s : State) {v : Nat} (hv : v < s.voices.length) :
    s.vmAllOff.voice v = if (s.voice v).active then (s.voice v).noteOff else s.voice v := by
  rw [State.voice_eq_getElem _ (by simpa [vmAllOff] using hv), s.voice_eq_getElem hv]
  exact List.getElem_map _

theorem active_and_note_eq_false_iff (x : Voice) (n : BitVec 7) :
    (x.active && x.midiNote == n) = false ↔ ¬(x.active = true ∧ x.midiNote = n) := by
  simp

/-- Settles O36: both packets are `vm_note_off`, whose search finds the first active voice with the note or none. -/
theorem evtOtherMeanings : Obligations.EvtOtherMeanings := by
  unfold Obligations.EvtOtherMeanings
  intro s cmd d1 d2 rsv n hit
  have hoff : exec (.evtNoteOff d1 d2 rsv) s = .next (s.vmNoteOff n) := rfl
  have hoffV0 : exec (.evtNoteOnV0 d1 rsv) s = .next (s.vmNoteOff n) := rfl
  have hmiss {u : Nat} (hu : ¬hit u) : ((s.voice u).active && (s.voice u).midiNote == n) = false :=
    (active_and_note_eq_false_iff _ n).mpr hu
  rw [hoff, hoffV0]
  refine ⟨fun v hv hhit hfirst => ?_, fun hnone => ?_, ⟨s.vmAllOff, rfl, rfl, List.length_map _, fun v => s.voice_vmAllOff⟩,
    rfl, rfl⟩
  · rw [State.vmNoteOff_of_first ⟨hv, by simpa using hhit, fun u hu => hmiss (hfirst u hu)⟩]
    exact ⟨rfl, rfl⟩
  · rw [State.vmNoteOff_of_none fun u hu => hmiss (hnone u hu)]
    exact ⟨rfl, rfl⟩

/-! ### One holder for each note (49_polyphony.md R344) -/

theorem State.oneHolder_iff (s : State) : OneHolder s.voices ↔ ∀ v, v < s.voices.length → (s.voice v).active = true →
    ∀ u, u < s.voices.length → (s.voice u).holds (s.voice v).midiNote = true →
      v ≤ u ∧ ((s.voice u).active = true → u = v) := by
  have hget {v : Nat} (hv : v < s.voices.length) (x : Voice) : s.voices[v]? = some x ↔ s.voice v = x := by
    rw [List.getElem?_eq_getElem hv, s.voice_eq_getElem hv, Option.some_inj]
  constructor
  · intro h v hv hactive u hu hholds
    obtain ⟨hnote, hsounds⟩ := (Voice.holds_iff _ _).mp hholds
    exact h v hv _ ((hget hv _).mpr rfl) hactive u hu _ ((hget hu _).mpr rfl) hnote hsounds
  · intro h v hv x hx hactive u hu y hy hnote hsounds
    obtain rfl := (hget hv x).mp hx
    obtain rfl := (hget hu y).mp hy
    exact h v hv hactive u hu ((Voice.holds_iff _ _).mpr ⟨hnote, hsounds⟩)

section
variable {s : State} {n : BitVec 7} {v k : Nat} (hsel : s.Selects n v k) {u : Nat} (hu : u < s.voices.length)
  (hholds : (s.voice u).holds n = true)
include hsel hu hholds

/-- Where a voice holds the note, step 1 chooses the first that does. -/
theorem State.Selects.first_of_holds : s.FirstVoice (·.holds n) v := by
  have hnone (h : s.NoVoice (·.holds n)) : s.FirstVoice (·.holds n) v := absurd (h u hu) (by simp [hholds])
  cases hsel with
  | retrigger hv => exact hv
  | free h _ => exact hnone h
  | released h _ _ => exact hnone h
  | sustained h _ _ _ => exact hnone h
  | quietest h _ _ _ _ => exact hnone h

theorem State.Selects.le_of_holds : v ≤ u := by
  obtain ⟨-, -, hbefore⟩ := hsel.first_of_holds hu hholds
  exact le_of_not_gt fun hlt => absurd (hbefore u hlt) (by simp [hholds])

/-- An active voice with the note is the one holder, so it is the voice chosen. -/
theorem State.Selects.eq_of_active (hone : OneHolder s.voices) (hactive : (s.voice u).active = true) : u = v := by
  obtain ⟨hv, hfirst, -⟩ := hsel.first_of_holds hu hholds
  have hnote : (s.voice u).midiNote = n := ((Voice.holds_iff _ _).mp hholds).1
  obtain ⟨hle, -⟩ := s.oneHolder_iff.mp hone u hu hactive v hv (hnote ▸ hfirst)
  exact le_antisymm hle (hsel.le_of_holds hu hholds)

end

theorem Env.noteOn_state_ne_idle (e : Env) : e.noteOn.state ≠ .idle := by
  by_cases hst : e.state = .stealFade
  · rw [noteOn_of_stealFade hst, hst]
    exact nofun
  · rcases lt_or_ge 0 e.level.toInt with hlevel | hlevel
    · rw [noteOn_of_level_pos hst hlevel]
      exact nofun
    · rw [noteOn_of_level_nonpos hst hlevel]
      exact nofun

theorem Voice.state_noteOff_noteOn (x : Voice) (c : Cfg) (n : BitVec 7) (vel : Word) :
    (x.noteOn c n vel).noteOff.env.state = .release :=
  congrArg Env.state (Env.noteOff_of_ne_idle (Env.noteOn_state_ne_idle _))

/-- Giving the note to the voice chosen for it keeps one holder for each note. -/
theorem State.oneHolder_setVoice {s : State} {n : BitVec 7} {v k : Nat} (hsel : s.Selects n v k) (hv : v < s.voices.length)
    (hone : OneHolder s.voices) {x : Voice} (hnote : x.midiNote = n) :
    OneHolder (s.setVoice v x).voices := by
  rw [State.oneHolder_iff, State.setVoice_length]
  intro w hw hactive u hu hholds
  by_cases hwv : w = v
  · subst hwv
    rw [s.voice_setVoice_self _ _ hv, hnote] at hholds
    by_cases huw : u = w
    · exact ⟨huw.ge, fun _ => huw⟩
    · rw [s.voice_setVoice_other _ _ _ (Ne.symm huw)] at hholds ⊢
      exact ⟨hsel.le_of_holds hu hholds, hsel.eq_of_active hu hholds hone⟩
  · rw [s.voice_setVoice_other _ _ _ (Ne.symm hwv)] at hactive hholds
    by_cases huv : u = v
    · subst huv
      rw [s.voice_setVoice_self _ _ hv, Voice.holds_iff, hnote] at hholds
      obtain ⟨hnw, -⟩ := hholds
      exact absurd (hsel.eq_of_active hw ((Voice.holds_iff _ _).mpr ⟨hnw.symm, .inl hactive⟩) hone hactive) hwv
    · rw [s.voice_setVoice_other _ _ _ (Ne.symm huv)] at hholds ⊢
      exact s.oneHolder_iff.mp hone w hw hactive u hu hholds

/-- Settles O37: after the start the chosen voice alone is active with the note, so note-off finds it and releases it. -/
theorem noteOnThenOff : Obligations.NoteOnThenOff := by
  unfold Obligations.NoteOnThenOff
  intro s n vel hbank hone v a b
  have hv : v < s.voices.length := selectVoice_lt s.voices n hbank
  have hsel : s.Selects n v _ := s.selects_selectVoice n hbank
  have hstarted : a.voice v = (s.voice v).noteOn s.cfg n vel := s.voice_setVoice_self v _ hv
  have hother {u : Nat} (hu : u ≠ v) : a.voice u = s.voice u := s.voice_setVoice_other v u _ hu.symm
  have halen : a.voices.length = s.voices.length := s.setVoice_length v _
  have hactive (u : Nat) (hu : u < a.voices.length) : ((a.voice u).active = true ∧ (a.voice u).midiNote = n) ↔ u = v := by
    refine ⟨fun ⟨hact, hnote⟩ => ?_, fun huv => by rw [huv, hstarted]; exact ⟨rfl, rfl⟩⟩
    by_contra huv
    rw [hother huv] at hact hnote
    exact huv (hsel.eq_of_active (halen ▸ hu) ((Voice.holds_iff _ _).mpr ⟨hnote, .inl hact⟩) hone hact)
  have hfirst : a.FirstVoice (fun x => x.active && x.midiNote == n) v := by
    refine ⟨halen ▸ hv, by simpa using (hactive v (halen ▸ hv)).mpr rfl, fun u hu => ?_⟩
    rw [active_and_note_eq_false_iff, hactive u (by omega)]
    exact hu.ne
  have hb : b = a.setVoice v (a.voice v).noteOff := State.vmNoteOff_of_first hfirst
  have hreleased : b.voice v = (a.voice v).noteOff := by rw [hb, a.voice_setVoice_self v _ (halen ▸ hv)]
  have hkept {u : Nat} (hu : u ≠ v) : b.voice u = a.voice u := by rw [hb, a.voice_setVoice_other v u _ hu.symm]
  refine ⟨hv, State.oneHolder_setVoice hsel hv hone rfl, hactive, ?_, ?_, fun u hu => ?_, fun u hu => ?_⟩
  · rw [hreleased, hstarted, Voice.state_noteOff_noteOn]
  · rw [hreleased, hstarted]
    rfl
  · rintro ⟨hact, hnote⟩
    by_cases huv : u = v
    · rw [huv, hreleased] at hact
      cases hact
    · rw [hkept huv] at hact hnote
      rw [hb, State.setVoice_length] at hu
      exact huv ((hactive u hu).mp ⟨hact, hnote⟩)
  · rw [hkept hu, hother hu]

end Sys2Proof.Machine
end

section
/-! Family 49_polyphony, the FIFO: a push appends, a poll takes the oldest packet (49_polyphony.md R321 to R323). -/

namespace Sys2Proof.Machine

/-- Two places of a ring less than a turn apart differ. -/
theorem ring_place_ne {d h k n : Nat} (hk : k < n) (hn : n < d) : (h + n) % d ≠ (h + k) % d := by
  intro heq
  have hmod : n % d = k % d := Nat.ModEq.add_left_cancel' h heq
  rw [Nat.mod_eq_of_lt hn, Nat.mod_eq_of_lt (hk.trans hn)] at hmod
  omega

/-! ### A push (49_polyphony.md R321) -/

section
variable {s : State} (w : Word)

theorem exec_evtPush_of_not_full (h : s.fifo.count < s.cfg.fifoDepth) : exec (.evtPush w) s = .next { s with
    fifo := s.fifo.push s.cfg.fifoDepth ⟨w, s.cells.map Cell.issued⟩, port := { s.port with pushWait := none } } :=
  congrArg Host.Outcome.next (if_pos h)

theorem exec_evtPush_of_full (h : s.fifo.count = s.cfg.fifoDepth) :
    exec (.evtPush w) s = .next { s with port := { s.port with pushWait := some w } } :=
  congrArg Host.Outcome.next (if_neg h.not_lt)

/-- The pushed packet is the newest; the slots before it stay. -/
theorem packets_push (hinv : FifoInv s) (h : s.fifo.count < s.cfg.fifoDepth) (x : Slot) (p : Port) :
    ({ s with fifo := s.fifo.push s.cfg.fifoDepth x, port := p } : State).packets = s.packets ++ [x.word] := by
  obtain ⟨hlen, -, -⟩ := hinv
  have hlast : (s.fifo.head + s.fifo.count) % s.cfg.fifoDepth < s.fifo.slots.length := by
    rw [hlen]
    exact Nat.mod_lt _ (Nat.zero_lt_of_lt h)
  simp only [State.packets, Fifo.push, List.range_succ, List.map_append, List.map_singleton]
  congr 1
  · refine List.map_congr_left fun k hk => ?_
    have hne := ring_place_ne (h := s.fifo.head) (List.mem_range.mp hk) h
    simp [List.getD, hne]
  · simp [List.getD, hlast]

theorem FifoInv.push (hinv : FifoInv s) (h : s.fifo.count < s.cfg.fifoDepth) (x : Slot) (p : Port) :
    FifoInv { s with fifo := s.fifo.push s.cfg.fifoDepth x, port := p } := by
  obtain ⟨hlen, hhead, -⟩ := hinv
  exact ⟨List.length_set.trans hlen, hhead, h⟩

/-- CONTROL's next step tries a waiting push again, and does nothing else (log 15). -/
theorem State.controlStep_of_pushWait (hw2 : s.port.w2Wait = none) (hpush : s.port.pushWait = some w) :
    s.controlStep = exec (.evtPush w) s := by
  simp only [State.controlStep, hw2, hpush]

end

/-! ### A poll (49_polyphony.md R322) -/

/-- A poll of a FIFO with a packet takes the oldest, and the rest stay in order. -/
theorem State.poll_packets {s : State} (hinv : FifoInv s) (h : 0 < s.fifo.count) :
    ∃ (x : Word) (t : State), s.poll = some (x, t) ∧ s.packets = x :: t.packets ∧ FifoInv t ∧
      t = { s with fifo := t.fifo, cells := t.cells } := by
  obtain ⟨hlen, hhead, hcount⟩ := hinv
  refine ⟨_, _, s.poll_of_count h.ne', ?_, ⟨hlen, Nat.mod_lt _ (Nat.zero_lt_of_lt hhead), by simp only; omega⟩, rfl⟩
  obtain ⟨n, hn⟩ := Nat.exists_eq_succ_of_ne_zero h.ne'
  simp only [State.packets, hn, Nat.succ_sub_one, List.range_succ_eq_map, List.map_cons, List.map_map, Nat.add_zero,
    Nat.mod_eq_of_lt hhead]
  congr 1
  refine List.map_congr_left fun k _ => ?_
  simp only [Function.comp_apply, Nat.mod_add_mod, Nat.succ_eq_add_one, Nat.add_assoc, Nat.add_comm 1 k]

/-- Settles O40: a push writes the place after the newest packet, a poll reads the place of the oldest. -/
theorem fifoOrder : Obligations.FifoOrder := by
  unfold Obligations.FifoOrder
  intro s w hinv
  refine ⟨fun hfree => ?_, exec_evtPush_of_full w, fun hw2 hpush => ?_, fun hempty => ?_, s.poll_packets hinv⟩
  · exact ⟨_, exec_evtPush_of_not_full w hfree, packets_push hinv hfree _ _, hinv.push hfree _ _, rfl, rfl⟩
  · rw [State.controlStep_of_pushWait w hw2 hpush]
    rcases Nat.lt_or_ge s.fifo.count s.cfg.fifoDepth with hfree | hfull
    · exact ⟨_, exec_evtPush_of_not_full w hfree, fun h => absurd h hfree.ne, fun _ => ⟨packets_push hinv hfree _ _, rfl⟩⟩
    · obtain ⟨-, -, hcount⟩ := hinv
      refine ⟨_, exec_evtPush_of_full w (le_antisymm hcount hfull), fun _ => ?_, fun h => absurd h hfull.not_gt⟩
      rw [← hpush]
  · exact ⟨if_pos hempty, by rw [State.packets, hempty]; rfl⟩

end Sys2Proof.Machine
end

section
/-! Family 60_exceptions, AUDIO: its steps record no fault and stay in the buffer being filled (60_exceptions.md R368, R375,
70_reset_and_hazards.md R402). -/

namespace Sys2Proof.Machine

/-- The unit that stores a word names it, so the sequencer's bound holds for it. -/
theorem outIndex_of_unitStore {s : State} {op : AudioOp} {i : Nat} {w : Word} (h : s.unitStore op = some (i, w)) :
    op.outIndex = some i := by
  cases op with
  | clear | mixStore | gainStore => cases h; rfl
  | _ => cases h

theorem State.audioStep_of_idle (s : State) (h : s.seq.busy = false) : s.audioStep = .next s := by
  simp [State.audioStep, State.polls, h]

/-- The two buffers do not meet: each holds at most 256 words (20_memory.md R71). -/
theorem outOffset_other_buffer {c : Cfg} (hl : c.legal = true) (b : Bool) {i j : Nat} (hi : i < c.bufWords)
    (hj : j < c.bufWords) : outOffset (!b) i + 4 ≤ outOffset b j ∨ outOffset b j + 4 ≤ outOffset (!b) i := by
  have hframes := Cfg.frames_of_legal hl
  unfold Cfg.bufWords at hi hj
  simp only [outOffset]
  cases b <;> simp only [Bool.not_false, Bool.not_true, Bool.false_eq_true, if_true, if_false] <;> omega

/-- A store to one buffer leaves every word of the other. -/
theorem State.outWord_storeOut_other_buffer {s : State} (hl : s.cfg.legal = true) (hmem : MemoryInv s) (b : Bool) {i j : Nat}
    (hi : i < s.cfg.bufWords) (hj : j < s.cfg.bufWords) (w : Word) :
    (s.storeOut b j w).outWord (!b) i = s.outWord (!b) i := by
  have happart := outOffset_other_buffer hl b hi hj
  exact Memory.readWord_congr _ _ _ fun k hk => State.readByte_storeOut_other hmem b j w _ (by omega)

/-- Settles O56: AUDIO has no unit for the registers, and a unit that stores a word stores it in the buffer being filled. -/
theorem audioStepFrame : Obligations.AudioStepFrame := by
  unfold Obligations.AudioStepFrame
  intro s t ht
  have hframe := State.eq_of_outsideAudio (s.outsideAudio_audioStep t ht)
  refine ⟨by rw [hframe], by rw [hframe], by rw [hframe], fun hidle => ?_, fun hl hmem hfill i hi => ?_⟩
  · rw [s.audioStep_of_idle hidle] at ht
    cases ht
    rfl
  · obtain ⟨-, hindex, -⟩ := hfill
    by_cases hst : ∃ op ops y, s.seq.busy = true ∧ s.work.todo = op :: ops ∧ s.unitStore op = some y
    · obtain ⟨op, ops, ⟨j, w⟩, hb, htodo, hop⟩ := hst
      have hj := hindex op (htodo ▸ List.mem_cons_self) j (outIndex_of_unitStore hop)
      obtain ⟨hstore, -⟩ := s.audioStep_of_store t op ops j w hb htodo hop ht
      rw [State.outWord, hstore]
      exact State.outWord_storeOut_other_buffer hl hmem _ hi hj w
    · have hno : ∀ op ops, s.seq.busy = true → s.work.todo = op :: ops → s.unitStore op = none := fun op ops hb htodo =>
        Option.eq_none_iff_forall_ne_some.mpr fun y hop => hst ⟨op, ops, y, hb, htodo, hop⟩
      rw [State.outWord, s.audioStep_mem_of_no_store t hno ht, State.outWord]

end Sys2Proof.Machine
end

section
/-! Family 60_exceptions, the fault record: sticky bits and the first FAULT_INFO stay until a block reset (60_exceptions.md R361,
10_state.md R24, R25). -/

namespace Sys2Proof.Machine

/-! ### What a step may do to the record -/

/-- No sticky bit is cleared, and a valid FAULT_INFO stays (60_exceptions.md R361). -/
def FaultRegs.Keeps (f g : FaultRegs) : Prop :=
  (∀ k, f.sticky.getLsbD k = true → g.sticky.getLsbD k = true) ∧ (f.info.getLsbD 7 = true → g.info = f.info)

theorem FaultRegs.Keeps.refl (f : FaultRegs) : f.Keeps f := ⟨fun _ h => h, fun _ => rfl⟩

theorem FaultRegs.Keeps.of_eq {f g : FaultRegs} (h : g = f) : f.Keeps g := h ▸ .refl f

/-- `VALID` is bit 7 of FAULT_INFO (10_state.md R25). -/
theorem FaultRegs.valid_eq (f : FaultRegs) : f.valid = f.info.getLsbD 7 := by
  have hbit : f.info.getLsbD 7 = decide (bits f.info 7 7 = 1) := Nat.testBit_eq_decide_div_mod_eq
  rw [hbit]
  rfl

theorem State.raise_keeps (s : State) (code : FaultCode) (info : BitVec 24) : s.flt.Keeps (s.raise code info).flt := by
  refine ⟨fun k hk => ?_, fun hvalid => ?_⟩
  · rw [State.raise_sticky, BitVec.getLsbD_or, hk, Bool.true_or]
  · rw [State.raise_info, FaultRegs.valid_eq, if_pos hvalid]

theorem UopEffect.flt_keeps {s t : State} (h : UopEffect s t) : s.flt.Keeps t.flt := by
  induction h with
  | keep | storeCell | sine | voice => exact .refl _
  | result _ _ ih => exact ih
  | fault code info => exact s.raise_keeps code info
  | mailbox id | smoother id => exact .of_eq (s.setSm_flt id _)

theorem PortEffect.flt_keeps {R : Prop} {s t : State} (h : PortEffect R s t) (hR : ¬R) : s.flt.Keeps t.flt := by
  induction h with
  | uop h => exact h.flt_keeps
  | regs | store | push | fill => exact .refl _
  | reset _ hr => exact absurd hr hR
  | port _ _ ih => exact ih

/-- AUDIO records no fault (60_exceptions.md R368); CONTROL and DRIVER only add to the record. -/
theorem step_flt_keeps {s t : State} (h : step s = .next t) (hreset : ¬s.resetsNext) : s.flt.Keeps t.flt := by
  by_cases ha : s.nextAgent.1 = .audio
  · rw [step_of_legal s (step_legal h), ha] at h
    have hflt := congrArg State.flt (State.eq_of_outsideAudio (State.outsideAudio_audioStep _ t h))
    rw [s.nextAgent_eq] at hflt
    exact .of_eq hflt
  · exact (PortEffect.of_step ha h).flt_keeps hreset

/-! ### The words of the record -/

/-- STATUS bits 15:0, the sequencer's and the FIFO's (10_state.md R24). -/
def State.statusLow (s : State) : Nat :=
  s.seq.busy.toNat + 2 * (s.fifo.count == s.cfg.fifoDepth).toNat + 4 * (s.fifo.count == 0).toNat +
    8 * s.seq.lastBuf.toNat + 2 ^ 8 * s.fifo.count

theorem State.statusLow_lt (s : State) (h : s.fifo.count ≤ 128) : s.statusLow < 2 ^ 16 := by
  have := s.seq.busy.toNat_le
  have := (s.fifo.count == s.cfg.fifoDepth).toNat_le
  have := (s.fifo.count == 0).toNat_le
  have := s.seq.lastBuf.toNat_le
  unfold statusLow
  omega

/-- STATUS is its sticky bits over the other fields. -/
theorem State.toNat_status (s : State) (h : s.fifo.count ≤ 128) :
    s.status.toNat = s.flt.sticky.toNat <<< 16 ||| s.statusLow := by
  have hlow := s.statusLow_lt h
  have hsticky := s.flt.sticky.isLt
  have hsum : s.status = BitVec.ofNat 32 (s.statusLow + 2 ^ 16 * s.flt.sticky.toNat) := rfl
  rw [hsum, ← Nat.shiftLeft_add_eq_or_of_lt hlow, Nat.shiftLeft_eq, BitVec.toNat_ofNat]
  omega

theorem FaultCode.num_le (code : FaultCode) : code.num ≤ 4 := by
  cases code <;> decide

/-- A fault sets its own bit of STATUS (60_exceptions.md R361). -/
theorem State.raise_status (s : State) (code : FaultCode) (info : BitVec 24) (h : s.fifo.count ≤ 128) :
    (s.raise code info).status = s.status ||| (1#32 <<< (16 + code.num)) := by
  have hbit : (1#32 <<< (16 + code.num)).toNat = code.sticky.toNat <<< 16 := by cases code <;> rfl
  have hlow : (s.raise code info).statusLow = s.statusLow := rfl
  have hraised := (s.raise code info).toNat_status h
  apply BitVec.eq_of_toNat_eq
  rw [hraised, hlow, State.raise_sticky, BitVec.toNat_or, BitVec.toNat_or, s.toNat_status h, hbit, Nat.shiftLeft_or_distrib,
    Nat.or_right_comm]

/-- FAULT_INFO's fields (10_state.md R25). -/
theorem faultRecord_eq_append (code : FaultCode) (info : BitVec 24) :
    faultRecord code info = info ++ 1#1 ++ 0#4 ++ BitVec.ofNat 3 code.num := by
  have hinfo := info.isLt
  have hcode := code.num_le
  apply BitVec.eq_of_toNat_eq
  simp only [BitVec.toNat_append]
  rw [← Nat.shiftLeft_add_eq_or_of_lt (1#1).isLt, ← Nat.shiftLeft_add_eq_or_of_lt (0#4).isLt,
    ← Nat.shiftLeft_add_eq_or_of_lt (BitVec.ofNat 3 code.num).isLt]
  simp only [faultRecord, Nat.shiftLeft_eq, BitVec.toNat_ofNat]
  omega

/-- Settles O42: a step only adds to the record; a fault sets the bit of its code and writes the fields of FAULT_INFO once. -/
theorem faultRecord_kept : Obligations.FaultRecord := by
  unfold Obligations.FaultRecord
  refine ⟨fun s t h hreset => step_flt_keeps h hreset, fun s code info hcount => ?_⟩
  intro k
  have hk : k = code.num := by
    unfold k
    cases code <;> rfl
  rw [hk]
  refine ⟨s.raise_status code info hcount, fun hfirst => ?_, fun hvalid => ?_, rfl⟩
  · rw [State.raise_info, FaultRegs.valid_eq, hfirst, if_neg Bool.false_ne_true, faultRecord_eq_append]
  · rw [State.raise_info, FaultRegs.valid_eq, if_pos hvalid]

end Sys2Proof.Machine
end

section
/-! Family 70_reset_and_hazards: a set_target between a reader's E2 and its E3 is lost (70_reset_and_hazards.md R397,
44_smoother.md R225 law 4). -/

namespace Sys2Proof.Machine

@[simp] theorem Smoother.advance_pending (m : Smoother) : m.advance.pending = m.pending := by
  unfold advance
  split_ifs <;> rfl

@[simp] theorem Smoother.take_pending (m : Smoother) (t : Word) : (m.take t).pending = m.pending := by
  unfold take
  split <;> rfl

/-- Smoothers of a legal configuration fit the UNIT field (10_state.md R32). -/
theorem SmId.fits_of_legal {c : Cfg} {id : SmId} (hl : c.legal = true) (h : ∀ v k, id = .voice v k → v < c.nvoices) :
    id.fits = true := by
  have hvoices := Cfg.nvoices_of_legal hl
  cases id with
  | global => rfl
  | voice v k =>
    have hv := h v k rfl
    exact Nat.blt_eq.mpr (by omega)

/-! ### The three steps, each by the agent at the head of the schedule (20_memory.md R80; log 24) -/

theorem exec_smSettarget_withPort {s : State} {id : SmId} (hunit : smAdmitted s.cfg id = true) (p : Port) :
    exec (.smSettarget id) { s with port := p } = .next { s.setSm id { s.sm id with pending := s.regs.a } with
      port := { p with w2Wait := some id } } := by
  rw [exec_smSettarget (s := { s with port := p }) hunit, State.sm_withPort, State.setSm_withPort]

theorem State.controlStep_withPort_of_w2Wait (s : State) {p : Port} {id : SmId} (h : p.w2Wait = some id) :
    ({ s with port := p } : State).controlStep = .next { s.setSm id { s.sm id with hasNew := true } with
      port := { p with w2Wait := none } } := by
  rw [State.controlStep_of_w2Wait (s := { s with port := p }) h, State.sm_withPort, State.setSm_withPort]

section
variable {s : State} {id : SmId} {as : List Agent} (hl : s.cfg.legal = true)
include hl

theorem step_of_sched {a : Agent} (h : s.port.sched = a :: as) :
    step s = ({ s with port := { s.port with sched := as } } : State).agentStep a := by
  rw [step_of_legal s hl, State.nextAgent, h]

/-- CONTROL's SM_SETTARGET is W1, and leaves W2 to CONTROL's next step (44_smoother.md R222). -/
theorem step_smSettarget (hid : ∀ v k, id = .voice v k → v < s.cfg.nvoices) {xs : List Access}
    (hsched : s.port.sched = .control :: as) (hw2 : s.port.w2Wait = none) (hpush : s.port.pushWait = none)
    (hcontrol : s.port.control = ⟨.write, s.cfg.base + 0x020, 4, encode (.smSettarget id)⟩ :: xs) :
    ∃ p : Port, p.sched = as ∧ p.w2Wait = some id ∧
      step s = .next { s.setSm id { s.sm id with pending := s.regs.a } with port := p } := by
  have hdecode := Laws.RoundTrip.decode_encode (.smSettarget id) (SmId.fits_of_legal hl hid)
  have hstep := step_of_control_command s as xs .uop _ _ hl hsched hw2 hpush nofun hdecode hcontrol
  refine ⟨_, ?_, ?_, hstep.trans (exec_smSettarget_withPort (smAdmitted_of_lt hid) _)⟩
  · rfl
  · rfl

/-- CONTROL's W2, before its next access (44_smoother.md R222). -/
theorem step_w2 (hsched : s.port.sched = .control :: as) (hw2 : s.port.w2Wait = some id) :
    ∃ p : Port, p.sched = as ∧ step s = .next { s.setSm id { s.sm id with hasNew := true } with port := p } := by
  rw [step_of_sched hl hsched]
  exact ⟨_, rfl, State.controlStep_withPort_of_w2Wait s hw2⟩

/-- AUDIO's E3 with the target E2 loaded (44_smoother.md R223). -/
theorem step_e3 {x : Word} {ops : List AudioOp} (hbank : ∀ v k, id = .voice v k → v < s.voices.length)
    (hsched : s.port.sched = .audio :: as) (hbusy : s.seq.busy = true) (htodo : s.work.todo = .e3 id x :: ops) :
    ∃ t, step s = .next t ∧ t.sm id = ((s.sm id).take x).advance := by
  rw [step_of_sched hl hsched]
  refine ⟨_, State.audioStep_of_todo _ _ ops hbusy htodo, ?_⟩
  rw [State.runOp, State.sm_setSm_self, State.sm_withTodo, State.drawn, State.sm_withPort, State.sm_withPort]
  exact hbank

end

/-- Settles O59: W1 and W2 write the mailbox only; E3 takes the value E2 loaded and clears the flag of the newer one. -/
theorem lostUpdate : Obligations.LostUpdate := by
  unfold Obligations.LostUpdate
  intro s id x ops as xs hl hbank hid hbusy htodo hw2 hpush hsched hcontrol
  have hself (m : Smoother) : (s.setSm id m).sm id = m := s.sm_setSm_self id m fun v k h => hbank ▸ hid v k h
  obtain ⟨p, hpsched, hpw2, ha⟩ := step_smSettarget hl hid hsched hw2 hpush hcontrol
  obtain ⟨q, hqsched, hb⟩ := step_w2 (s := { s.setSm id { s.sm id with pending := s.regs.a } with port := p })
    (by simpa using hl) hpsched hpw2
  simp only [State.sm_withPort, State.setSm_withPort, State.setSm_setSm, hself] at hb
  obtain ⟨c, hc, hcsm⟩ := step_e3 (s := { s.setSm id { s.sm id with pending := s.regs.a, hasNew := true } with port := q })
    (by simpa using hl) (fun v k h => by simpa [hbank] using hid v k h) hqsched (by simpa using hbusy) (by simpa using htodo)
  simp only [State.sm_withPort, hself] at hcsm
  refine ⟨_, _, c, ha, hb, hc, ?_⟩
  simp only [hcsm, State.sm_withPort, hself, Smoother.advance_hasNew, Smoother.advance_target, Smoother.advance_pending,
    Smoother.take_hasNew, Smoother.take_target, Smoother.take_pending, and_self]

end Sys2Proof.Machine
end
